-- ==== Sys2Proof/Word.lean ====
section
/-! DEFINITION. The byte of the control links, the index types the part fixes, and the fixed-size
table in which State keeps "n of a thing" (32 channels, 64 slots, 512 taps). -/

namespace Sys2Proof

/-- A byte on a control link (R202). -/
abbrev Byte := BitVec 8

/-- A channel number, equal to its timeslot (6.1). -/
abbrev ChannelNo := Fin 32
/-- A route profile number (R136). -/
abbrev ProfileNo := Fin 16
/-- A trunk group number (R149). -/
abbrev GroupNo := Fin 8
/-- A schedule entry number (R171). -/
abbrev EntryNo := Fin 24
/-- A record ring slot number (R178). -/
abbrev SlotNo := Fin 64

/-- Exactly `n` values of one type, in order: plain data that carries its own length. -/
structure Table (α : Type) (n : Nat) where
  data : List α
  size : data.length = n
  deriving DecidableEq, Repr

/-- The entry at `i`. -/
def Table.get {α : Type} {n : Nat} (t : Table α n) (i : Fin n) : α :=
  t.data[i.val]'(by rw [t.size]; exact i.isLt)

/-- The table with the entry at `i` replaced. -/
def Table.set {α : Type} {n : Nat} (t : Table α n) (i : Fin n) (a : α) : Table α n :=
  ⟨t.data.set i.val a, by rw [List.length_set]; exact t.size⟩

/-- The table with `f` applied to the entry at `i`. -/
def Table.modify {α : Type} {n : Nat} (t : Table α n) (i : Fin n) (f : α → α) : Table α n :=
  t.set i (f (t.get i))

/-- The table with `f` applied to every entry. -/
def Table.map {α β : Type} {n : Nat} (f : α → β) (t : Table α n) : Table β n :=
  ⟨t.data.map f, by rw [List.length_map]; exact t.size⟩

/-- The table with `f` applied to every entry and its number. -/
def Table.mapIdx {α β : Type} {n : Nat} (f : Nat → α → β) (t : Table α n) : Table β n :=
  ⟨t.data.mapIdx f, by rw [List.length_mapIdx]; exact t.size⟩

/-- The table that holds `a` everywhere. -/
def Table.replicate {α : Type} (n : Nat) (a : α) : Table α n :=
  ⟨List.replicate n a, List.length_replicate⟩

end Sys2Proof
end

