-- ==== Sys2Proof/Syntax.lean ====
section
/-! DEFINITION. The commands and events of the part: one constructor for each row of
spec/opcode_table.json. The link commands carry the link they arrive on, their TAG and their raw
parameter bytes (chapter 11), so that a frame with a wrong parameter count is a term too. -/

namespace Sys2Proof

/-- The two control links (chapter 10). -/
inductive Link where
  /-- The C-link, to the call-processing controller. -/
  | cLink
  /-- The M-link, to the transmission maintenance processor. -/
  | mLink
  deriving DecidableEq, Repr

/-- The commands of the catalogue of R209, one name for each CODE of 11.2. -/
inductive Opcode where
  | readAttention | setAttentionMask | deviceRestart
  | seize | clear | modifyCall | block | unblock | forceRelease
  | restartChannel | readChannel | assignChannel
  | setBase | flagSet | flagClear | flagTest | fieldWrite | fieldRead
  | holdProfile | writeProfile | resumeProfile | readProfile
  | writeGroup | readGroup | overridePush | overridePop
  | timeSet | timeRead | writeEntry | eraseEntry | readEntry
  | readSlot | returnSlot | requestCapture
  deriving DecidableEq, Repr

/-- One step of the part. The first twelve and `restartInstant` are events of the pins, the highways, the
crystal and the link lines; the others are the commands of R209 as taken from a checked frame. -/
inductive Instr where
  /-- RESET_N is asserted (R199). -/
  | resetAssert
  /-- RESET_N is released (R199). -/
  | resetRelease
  /-- An FSYNC pulse falls at bit period `bit`, `ns` nanoseconds by the crystal, both counted from one
  origin (R4, R5). -/
  | fsyncPulse (bit ns : Nat)
  /-- 130 µs pass by the crystal after the last pulse with no further pulse (R4). -/
  | pulseTimeout
  /-- 1 µs passes by the crystal with no BCLK edge: bit periods of the current frame from `fromBit` on are
  placed by the crystal (R5, R6). -/
  | bclkStopped (fromBit : Nat)
  /-- The expected position is reached; `fsync` is FSYNC as the HWI samples it there (R5). -/
  | expectedPosition (fsync : Bool)
  /-- Channel `ch`'s frame event; `t` and `s` are the bits THI and XHI present in its timeslot (R11). -/
  | frameEvent (ch : ChannelNo) (t s : BitVec 16)
  /-- Channel `ch`'s block end (R12). -/
  | blockEnd (ch : ChannelNo)
  /-- The second tick (R13). -/
  | secondTick
  /-- A byte arrives on a link's receiver (R202). -/
  | receiveByte (l : Link) (b : Byte)
  /-- 2 ms of silence expire on a link's receiver (R202). -/
  | gapTimerExpiry (l : Link)
  /-- The last byte of the response in transit on a link is sent (R205). -/
  | responseSent (l : Link)
  /-- A taken frame whose CODE names no command (R208). -/
  | unknownCommand (l : Link) (code tag : Byte) (ps : List Byte)
  | readAttention (l : Link) (tag : Byte) (ps : List Byte)
  | setAttentionMask (l : Link) (tag : Byte) (ps : List Byte)
  | deviceRestart (l : Link) (tag : Byte) (ps : List Byte)
  /-- The last byte of the DEVICE RESTART response is sent, and the restart takes place (R200, R201). -/
  | restartInstant
  | seize (l : Link) (tag : Byte) (ps : List Byte)
  | clear (l : Link) (tag : Byte) (ps : List Byte)
  | modifyCall (l : Link) (tag : Byte) (ps : List Byte)
  | block (l : Link) (tag : Byte) (ps : List Byte)
  | unblock (l : Link) (tag : Byte) (ps : List Byte)
  | forceRelease (l : Link) (tag : Byte) (ps : List Byte)
  | restartChannel (l : Link) (tag : Byte) (ps : List Byte)
  | readChannel (l : Link) (tag : Byte) (ps : List Byte)
  | assignChannel (l : Link) (tag : Byte) (ps : List Byte)
  | setBase (l : Link) (tag : Byte) (ps : List Byte)
  | flagSet (l : Link) (tag : Byte) (ps : List Byte)
  | flagClear (l : Link) (tag : Byte) (ps : List Byte)
  | flagTest (l : Link) (tag : Byte) (ps : List Byte)
  | fieldWrite (l : Link) (tag : Byte) (ps : List Byte)
  | fieldRead (l : Link) (tag : Byte) (ps : List Byte)
  | holdProfile (l : Link) (tag : Byte) (ps : List Byte)
  | writeProfile (l : Link) (tag : Byte) (ps : List Byte)
  | resumeProfile (l : Link) (tag : Byte) (ps : List Byte)
  | readProfile (l : Link) (tag : Byte) (ps : List Byte)
  | writeGroup (l : Link) (tag : Byte) (ps : List Byte)
  | readGroup (l : Link) (tag : Byte) (ps : List Byte)
  | overridePush (l : Link) (tag : Byte) (ps : List Byte)
  | overridePop (l : Link) (tag : Byte) (ps : List Byte)
  | timeSet (l : Link) (tag : Byte) (ps : List Byte)
  | timeRead (l : Link) (tag : Byte) (ps : List Byte)
  | writeEntry (l : Link) (tag : Byte) (ps : List Byte)
  | eraseEntry (l : Link) (tag : Byte) (ps : List Byte)
  | readEntry (l : Link) (tag : Byte) (ps : List Byte)
  | readSlot (l : Link) (tag : Byte) (ps : List Byte)
  | returnSlot (l : Link) (tag : Byte) (ps : List Byte)
  | requestCapture (l : Link) (tag : Byte) (ps : List Byte)
  deriving DecidableEq, Repr

end Sys2Proof
end

