-- ==== Sys2Proof/Decode.lean ====
section
/-! DEFINITION. The words of the control links: the check of R204, the command frame of 11.1, the catalogue of
R209 and 11.2, the reading of a frame as a command and, after it, the frame of a command; and
`decodeTableWord`, which the opcode table gives no bits. -/

namespace Sys2Proof

/-- One shift of the check register of R204. -/
def crcShift (r : BitVec 16) : BitVec 16 :=
  if r.msb then (r <<< 1) ^^^ 0x1021#16 else r <<< 1

/-- One byte placed into the high end of the register, and eight shifts (R204). -/
def crcByte (r : BitVec 16) (b : Byte) : BitVec 16 :=
  Nat.repeat crcShift 8 (r ^^^ (b.zeroExtend 16 <<< 8))

/-- The check of R204 over the bytes from LEN to the last parameter or data byte. -/
def crc (bytes : List Byte) : BitVec 16 :=
  bytes.foldl crcByte 0xFFFF#16

/-- The check, high byte first (R204). -/
def checkBytes (bytes : List Byte) : List Byte :=
  [((crc bytes) >>> 8).truncate 8, (crc bytes).truncate 8]

/-- The start byte of every frame (11.1). -/
def startByte : Byte := 0xC5#8

/-- The frame that carries `body`, the bytes from CODE on (11.1): start, LEN, body, check. -/
def frameOf (body : List Byte) : List Byte :=
  let len : Byte := BitVec.ofNat 8 body.length
  startByte :: len :: body ++ checkBytes (len :: body)

/-- CODE of a command (11.2). -/
def Opcode.code : Opcode → Byte
  | .readAttention => 0x01#8
  | .setAttentionMask => 0x02#8
  | .deviceRestart => 0x03#8
  | .seize => 0x10#8
  | .clear => 0x11#8
  | .modifyCall => 0x12#8
  | .block => 0x13#8
  | .unblock => 0x14#8
  | .forceRelease => 0x15#8
  | .restartChannel => 0x16#8
  | .readChannel => 0x17#8
  | .assignChannel => 0x18#8
  | .setBase => 0x20#8
  | .flagSet => 0x21#8
  | .flagClear => 0x22#8
  | .flagTest => 0x23#8
  | .fieldWrite => 0x24#8
  | .fieldRead => 0x25#8
  | .holdProfile => 0x30#8
  | .writeProfile => 0x31#8
  | .resumeProfile => 0x32#8
  | .readProfile => 0x33#8
  | .writeGroup => 0x38#8
  | .readGroup => 0x39#8
  | .overridePush => 0x3A#8
  | .overridePop => 0x3B#8
  | .timeSet => 0x40#8
  | .timeRead => 0x41#8
  | .writeEntry => 0x44#8
  | .eraseEntry => 0x45#8
  | .readEntry => 0x46#8
  | .readSlot => 0x50#8
  | .returnSlot => 0x51#8
  | .requestCapture => 0x52#8

/-- The command that a CODE names, if any (11.2, R208). -/
def Opcode.ofCode (c : Byte) : Option Opcode :=
  match c.toNat with
  | 0x01 => some .readAttention
  | 0x02 => some .setAttentionMask
  | 0x03 => some .deviceRestart
  | 0x10 => some .seize
  | 0x11 => some .clear
  | 0x12 => some .modifyCall
  | 0x13 => some .block
  | 0x14 => some .unblock
  | 0x15 => some .forceRelease
  | 0x16 => some .restartChannel
  | 0x17 => some .readChannel
  | 0x18 => some .assignChannel
  | 0x20 => some .setBase
  | 0x21 => some .flagSet
  | 0x22 => some .flagClear
  | 0x23 => some .flagTest
  | 0x24 => some .fieldWrite
  | 0x25 => some .fieldRead
  | 0x30 => some .holdProfile
  | 0x31 => some .writeProfile
  | 0x32 => some .resumeProfile
  | 0x33 => some .readProfile
  | 0x38 => some .writeGroup
  | 0x39 => some .readGroup
  | 0x3A => some .overridePush
  | 0x3B => some .overridePop
  | 0x40 => some .timeSet
  | 0x41 => some .timeRead
  | 0x44 => some .writeEntry
  | 0x45 => some .eraseEntry
  | 0x46 => some .readEntry
  | 0x50 => some .readSlot
  | 0x51 => some .returnSlot
  | 0x52 => some .requestCapture
  | _ => none

/-- Whether a link admits a command (R209). -/
def Opcode.admitted (l : Link) : Opcode → Bool
  -- C-link only
  | .seize => l == .cLink
  | .clear => l == .cLink
  | .modifyCall => l == .cLink
  -- M-link only
  | .deviceRestart => l == .mLink
  | .block => l == .mLink
  | .unblock => l == .mLink
  | .forceRelease => l == .mLink
  | .assignChannel => l == .mLink
  | .holdProfile => l == .mLink
  | .writeProfile => l == .mLink
  | .resumeProfile => l == .mLink
  | .writeGroup => l == .mLink
  | .overridePush => l == .mLink
  | .overridePop => l == .mLink
  | .timeSet => l == .mLink
  | .writeEntry => l == .mLink
  | .eraseEntry => l == .mLink
  | .requestCapture => l == .mLink
  -- either link
  | .readAttention => true
  | .setAttentionMask => true
  | .restartChannel => true
  | .readChannel => true
  | .setBase => true
  | .flagSet => true
  | .flagClear => true
  | .flagTest => true
  | .fieldWrite => true
  | .fieldRead => true
  | .readProfile => true
  | .readGroup => true
  | .timeRead => true
  | .readEntry => true
  | .readSlot => true
  | .returnSlot => true

/-- The number of parameter bytes a command's frame must carry on a link, LEN − 2 (11.2). -/
def Opcode.paramCount (l : Link) : Opcode → Nat
  | .readAttention => 0
  | .setAttentionMask => 1
  | .deviceRestart => 0
  | .seize => 4
  | .clear => 3
  | .modifyCall => 4
  | .block => 1
  | .unblock => 1
  | .forceRelease => 1
  | .restartChannel => match l with | .cLink => 3 | .mLink => 1
  | .readChannel => 1
  | .assignChannel => 2
  | .setBase => 1
  | .flagSet => 2
  | .flagClear => 2
  | .flagTest => 2
  | .fieldWrite => 5
  | .fieldRead => 3
  | .holdProfile => 1
  | .writeProfile => 35
  | .resumeProfile => 1
  | .readProfile => 1
  | .writeGroup => 2
  | .readGroup => 1
  | .overridePush => 2
  | .overridePop => 1
  | .timeSet => 7
  | .timeRead => 0
  | .writeEntry => 10
  | .eraseEntry => 1
  | .readEntry => 1
  | .readSlot => 1
  | .returnSlot => 1
  | .requestCapture => 1

/-- The command that an opcode, a TAG and parameter bytes make on a link. -/
def Opcode.instr (l : Link) (tag : Byte) (ps : List Byte) : Opcode → Instr
  | .readAttention => .readAttention l tag ps
  | .setAttentionMask => .setAttentionMask l tag ps
  | .deviceRestart => .deviceRestart l tag ps
  | .seize => .seize l tag ps
  | .clear => .clear l tag ps
  | .modifyCall => .modifyCall l tag ps
  | .block => .block l tag ps
  | .unblock => .unblock l tag ps
  | .forceRelease => .forceRelease l tag ps
  | .restartChannel => .restartChannel l tag ps
  | .readChannel => .readChannel l tag ps
  | .assignChannel => .assignChannel l tag ps
  | .setBase => .setBase l tag ps
  | .flagSet => .flagSet l tag ps
  | .flagClear => .flagClear l tag ps
  | .flagTest => .flagTest l tag ps
  | .fieldWrite => .fieldWrite l tag ps
  | .fieldRead => .fieldRead l tag ps
  | .holdProfile => .holdProfile l tag ps
  | .writeProfile => .writeProfile l tag ps
  | .resumeProfile => .resumeProfile l tag ps
  | .readProfile => .readProfile l tag ps
  | .writeGroup => .writeGroup l tag ps
  | .readGroup => .readGroup l tag ps
  | .overridePush => .overridePush l tag ps
  | .overridePop => .overridePop l tag ps
  | .timeSet => .timeSet l tag ps
  | .timeRead => .timeRead l tag ps
  | .writeEntry => .writeEntry l tag ps
  | .eraseEntry => .eraseEntry l tag ps
  | .readEntry => .readEntry l tag ps
  | .readSlot => .readSlot l tag ps
  | .returnSlot => .returnSlot l tag ps
  | .requestCapture => .requestCapture l tag ps

/-- The command that CODE, TAG and the parameters of a taken frame name (R208). -/
def commandOf (l : Link) (code tag : Byte) (ps : List Byte) : Instr :=
  match Opcode.ofCode code with
  | some op => op.instr l tag ps
  | none => .unknownCommand l code tag ps

/-- A received frame is complete when it holds LEN + 4 bytes (R202). -/
def frameComplete (bytes : List Byte) : Bool :=
  match bytes with
  | _ :: len :: _ => bytes.length == len.toNat + 4
  | _ => false

/-- The check of a complete frame matches (R204): its last two bytes are the check of those from LEN on. -/
def frameCheckOk (bytes : List Byte) : Bool :=
  match bytes with
  | _ :: len :: rest =>
    rest.drop len.toNat == checkBytes (len :: rest.take len.toNat)
  | _ => false

/-- CODE, TAG and the parameters of a complete frame (11.1). -/
def frameFields (bytes : List Byte) : Option (Byte × Byte × List Byte) :=
  match bytes with
  | _ :: len :: code :: tag :: rest => some (code, tag, rest.take (len.toNat - 2))
  | _ => none

/-- The command a whole frame spells on a link; none where R202 to R204 take no command from it. -/
def decodeFrame (l : Link) (bytes : List Byte) : Option Instr :=
  match bytes with
  | start :: len :: _ =>
    if start = startByte ∧ 2 ≤ len.toNat ∧ len.toNat ≤ 60 ∧ frameComplete bytes ∧ frameCheckOk bytes then
      (frameFields bytes).map fun f => commandOf l f.1 f.2.1 f.2.2
    else none
  | _ => none

/-- The link, CODE, TAG and parameters of a command; none for an event. -/
def Instr.command : Instr → Option (Link × Byte × Byte × List Byte)
  | .unknownCommand l code tag ps => some (l, code, tag, ps)
  | .readAttention l tag ps => some (l, Opcode.code .readAttention, tag, ps)
  | .setAttentionMask l tag ps => some (l, Opcode.code .setAttentionMask, tag, ps)
  | .deviceRestart l tag ps => some (l, Opcode.code .deviceRestart, tag, ps)
  | .seize l tag ps => some (l, Opcode.code .seize, tag, ps)
  | .clear l tag ps => some (l, Opcode.code .clear, tag, ps)
  | .modifyCall l tag ps => some (l, Opcode.code .modifyCall, tag, ps)
  | .block l tag ps => some (l, Opcode.code .block, tag, ps)
  | .unblock l tag ps => some (l, Opcode.code .unblock, tag, ps)
  | .forceRelease l tag ps => some (l, Opcode.code .forceRelease, tag, ps)
  | .restartChannel l tag ps => some (l, Opcode.code .restartChannel, tag, ps)
  | .readChannel l tag ps => some (l, Opcode.code .readChannel, tag, ps)
  | .assignChannel l tag ps => some (l, Opcode.code .assignChannel, tag, ps)
  | .setBase l tag ps => some (l, Opcode.code .setBase, tag, ps)
  | .flagSet l tag ps => some (l, Opcode.code .flagSet, tag, ps)
  | .flagClear l tag ps => some (l, Opcode.code .flagClear, tag, ps)
  | .flagTest l tag ps => some (l, Opcode.code .flagTest, tag, ps)
  | .fieldWrite l tag ps => some (l, Opcode.code .fieldWrite, tag, ps)
  | .fieldRead l tag ps => some (l, Opcode.code .fieldRead, tag, ps)
  | .holdProfile l tag ps => some (l, Opcode.code .holdProfile, tag, ps)
  | .writeProfile l tag ps => some (l, Opcode.code .writeProfile, tag, ps)
  | .resumeProfile l tag ps => some (l, Opcode.code .resumeProfile, tag, ps)
  | .readProfile l tag ps => some (l, Opcode.code .readProfile, tag, ps)
  | .writeGroup l tag ps => some (l, Opcode.code .writeGroup, tag, ps)
  | .readGroup l tag ps => some (l, Opcode.code .readGroup, tag, ps)
  | .overridePush l tag ps => some (l, Opcode.code .overridePush, tag, ps)
  | .overridePop l tag ps => some (l, Opcode.code .overridePop, tag, ps)
  | .timeSet l tag ps => some (l, Opcode.code .timeSet, tag, ps)
  | .timeRead l tag ps => some (l, Opcode.code .timeRead, tag, ps)
  | .writeEntry l tag ps => some (l, Opcode.code .writeEntry, tag, ps)
  | .eraseEntry l tag ps => some (l, Opcode.code .eraseEntry, tag, ps)
  | .readEntry l tag ps => some (l, Opcode.code .readEntry, tag, ps)
  | .readSlot l tag ps => some (l, Opcode.code .readSlot, tag, ps)
  | .returnSlot l tag ps => some (l, Opcode.code .returnSlot, tag, ps)
  | .requestCapture l tag ps => some (l, Opcode.code .requestCapture, tag, ps)
  | .resetAssert => none
  | .resetRelease => none
  | .fsyncPulse _ _ => none
  | .pulseTimeout => none
  | .bclkStopped _ => none
  | .expectedPosition _ => none
  | .frameEvent _ _ _ => none
  | .blockEnd _ => none
  | .secondTick => none
  | .receiveByte _ _ => none
  | .gapTimerExpiry _ => none
  | .responseSent _ => none
  | .restartInstant => none

/-- The frame that carries a command, with the link it is sent on; none for an event (11.1). -/
def encodeFrame (i : Instr) : Option (Link × List Byte) :=
  i.command.map fun c => (c.1, frameOf (c.2.1 :: c.2.2.1 :: c.2.2.2))

/-- The opcode table gives no row any bits, so no word spells a command (assumption 14). -/
def decodeTableWord (_nbits _w : Nat) : Option Instr :=
  none

end Sys2Proof
end

