-- ==== Sys2Proof/Config.lean ====
section
/-! DEFINITION. What the manual leaves open: the one choice it makes nowhere is the order in which the
switches of several groups at one second tick hand their records to the ring (R187). -/

namespace Sys2Proof

/-- Free value (R187, "taken one after the other in either order"): the rank that orders the
PROFILE_SWITCHED hand-overs of one second tick, for the `k`-th tick at which such a choice arises.
It has no body: nothing can be proved of it. DESIGN CHOICE, safe: assumption 3. -/
opaque Config.switchRank : (k : Nat) → GroupNo → Nat

end Sys2Proof
end

