-- ==== Sys2Proof/Machine/State.lean ====
section
/-! DEFINITION. The state of the Colzane 7132: every item the manual's chapters give the part, the queue
of commands that wait, and the power-on values. -/

namespace Sys2Proof.Machine

/-- Why the part stops. It has no such reason: no rule of the manual ends the part's run, every malformed
command is answered and every malformed frame is counted (R203, R208). Safe. -/
inductive Fault where
  deriving DecidableEq, Repr

/-- Why the model has no meaning for a term. -/
inductive Refusal where
  /-- Raised by `exec`'s arm of a row without a meaning; no arm raises it. Safe. -/
  | notModelled (mnemonic : String)
  /-- Raised by UNKNOWN_COMMAND on a CODE that does name a command (R208): an ill-formed term that no frame
  spells. DESIGN CHOICE, safe: assumption 13. -/
  | codeNamesACommand (code : Byte)
  deriving DecidableEq, Repr

/-! ## Profiles and parameter sets (chapters 5 and 7) -/

/-- The level fields of one path (5.2). -/
structure LevelFields where
  alc : Bool
  pad : Int
  gMin : Int
  gMax : Int
  aLo : Nat
  aHi : Nat
  aSp : Nat
  deriving DecidableEq, Repr

/-- The fields of a route profile, and of a channel's applied parameter set (R136). -/
structure ParamSet where
  /-- D, bulk delay in samples -/
  bulkDelay : Nat
  /-- W, window length in taps -/
  window : Nat
  mFast : Nat
  /-- T, near-speech ratio in eighths of Xpk -/
  nsRatio : Nat
  /-- H, hangover in samples -/
  hangover : Nat
  nsFloor : Nat
  farFloor : Nat
  /-- d, suppression depth -/
  nlpDepth : Nat
  toneEnable : Bool
  rPath : LevelFields
  tPath : LevelFields
  deriving DecidableEq, Repr

/-- Profile 0's level fields on either path (5.2, R136). -/
def levelZero : LevelFields :=
  { alc := true, pad := 0, gMin := -6, gMax := 6, aLo := 1500, aHi := 3000, aSp := 200 }

/-- Profile 0's fields (R136, R137). -/
def profileZero : ParamSet :=
  { bulkDelay := 0, window := 256, mFast := 3, nsRatio := 4, hangover := 240, nsFloor := 64,
    farFloor := 32, nlpDepth := 2, toneEnable := true, rPath := levelZero, tPath := levelZero }

/-- A route profile: its fields and its state, HELD or OPEN (R136). -/
structure Profile where
  fields : ParamSet
  held : Bool
  deriving DecidableEq, Repr

/-- A trunk group (R149). The stack is oldest first. -/
structure Group where
  default : ProfileNo
  scheduled : ProfileNo
  stack : List ProfileNo
  applied : ProfileNo
  deriving DecidableEq, Repr

/-! ## Channels (chapters 2 to 6) -/

/-- Call options (6.1). -/
structure CallOptions where
  cancel : Bool
  nlp : Bool
  alc : Bool
  deriving DecidableEq, Repr

/-- Custody; a reference, options and a block-pending mark exist exactly in CALL (R107). -/
inductive Custody where
  | idle
  | call (ref : Nat) (opts : CallOptions) (blockPending : Bool)
  | test
  deriving DecidableEq, Repr

/-- Convergence state (3.6). -/
inductive Convergence where
  | untrained
  | converging
  | converged
  deriving DecidableEq, Repr

/-- The canceller engine's items for one channel (2.1). -/
structure Echo where
  /-- x[n], x[n−1], …, newest first (R16) -/
  history : Table Int 1472
  /-- h_0 .. h_511 (R21) -/
  taps : Table Int 512
  /-- P (R19) -/
  energy : Nat
  /-- Xpk (R19) -/
  peak : Nat
  deriving DecidableEq, Repr

/-- The near-speech and convergence unit's items for one channel (chapter 3). -/
structure Near where
  hangover : Nat
  blanking : Nat
  /-- Ps, Pe, nsc, ac: the classification sums (3.4) -/
  ps : Nat
  pe : Nat
  nsc : Nat
  ac : Nat
  /-- whether the channel was cancelling in its last sample (3.4) -/
  cancelling : Bool
  nlpMark : Bool
  conv : Convergence
  goodRun : Nat
  badRun : Nat
  divRun : Nat
  deriving DecidableEq, Repr

/-- The tone detector's items for one direction of one channel (chapter 4). -/
structure ToneDir where
  last : Int
  /-- Z -/
  crossings : Nat
  /-- Pb -/
  power : Nat
  /-- Pprev -/
  prevPower : Nat
  run : Nat
  deriving DecidableEq, Repr

/-- The tone detector's items for one channel (chapter 4). -/
structure Tone where
  trunk : ToneDir
  exchange : ToneDir
  observed : Nat
  bypassMark : Bool
  /-- tone state: BYPASSED, or QUIET -/
  bypassed : Bool
  quietRun : Nat
  deriving DecidableEq, Repr

/-- A level unit's items for one path of one channel (chapter 5). -/
structure Level where
  gain : Int
  raiseRun : Nat
  /-- S -/
  sum : Nat
  clipMark : Bool
  deriving DecidableEq, Repr

/-- The eight call statistics (6.7). -/
structure Stats where
  duration : Nat
  goodBlocks : Nat
  nearBlocks : Nat
  saturations : Nat
  clipsR : Nat
  clipsT : Nat
  toneEntries : Nat
  divergences : Nat
  deriving DecidableEq, Repr

/-- One channel: its record (6.1), its signal state, its output samples (R2), and the events the current
frame still owes it (R11, R12). -/
structure Channel where
  custody : Custody
  group : GroupNo
  profile : ProfileNo
  params : ParamSet
  forceBypass : Bool
  freeze : Bool
  capturePending : Bool
  stats : Stats
  echo : Echo
  near : Near
  tone : Tone
  rLevel : Level
  tLevel : Level
  /-- samples driven on XHO and THO in the current frame -/
  xOut : Int
  zOut : Int
  /-- samples formed in the current frame, for the next -/
  xNext : Int
  zNext : Int
  /-- the current frame's frame event, and its block end, are still to come (assumption 4) -/
  frameDue : Bool
  blockDue : Bool
  deriving DecidableEq, Repr

/-! ## Highway interface (chapter 1) -/

/-- Highway lock state (1.2). -/
inductive Lock where
  | acquiring
  | locked
  | lost
  deriving DecidableEq, Repr

/-- Where an FSYNC pulse fell: its bit period, and its time by the crystal in nanoseconds (R4). -/
structure Pulse where
  bit : Nat
  ns : Nat
  deriving DecidableEq, Repr

/-- The highway interface's items (1.2, 1.4). -/
structure Highway where
  lock : Lock
  goodRun : Nat
  badRun : Nat
  lastPulse : Option Pulse
  /-- expected position of the next pulse, as a bit period; held in LOCKED -/
  expected : Option Nat
  /-- a pulse fell off the expected position since the last one (R5) -/
  misplaced : Bool
  /-- bit period of the current frame from which BCLK counts as stopped (R5) -/
  bclkStop : Option Nat
  /-- frame counter, 0..7999 (R10) -/
  frame : Nat
  deriving DecidableEq, Repr

/-! ## Clock and schedule (chapter 8) -/

inductive ClockState where
  | unset
  | set
  | stale
  deriving DecidableEq, Repr

/-- A time of day (R171). -/
structure TimeOfDay where
  hour : Nat
  minute : Nat
  second : Nat
  deriving DecidableEq, Repr

/-- The clock's eight fields and its state (R161, R162). -/
structure Clock where
  year : Nat
  month : Nat
  day : Nat
  time : TimeOfDay
  weekday : Nat
  /-- frame in second, 0..7999 -/
  fis : Nat
  state : ClockState
  deriving DecidableEq, Repr

/-- A schedule entry (R171); mark k of the mask is weekday k. -/
structure Entry where
  inUse : Bool
  group : GroupNo
  start : TimeOfDay
  stop : TimeOfDay
  mask : BitVec 7
  profile : ProfileNo
  deriving DecidableEq, Repr

/-! ## Record ring (chapter 9) -/

/-- Why a call or test ended (R184). -/
inductive EndReason where
  | cleared
  | forced
  | testEnded
  deriving DecidableEq, Repr

/-- Detail of TONE_BYPASS_ON (R185). -/
inductive ToneDirection where
  | trunk
  | exchange
  | both
  deriving DecidableEq, Repr

/-- Cause of a switch (R151). -/
inductive SwitchCause where
  | override
  | schedule
  deriving DecidableEq, Repr

/-- Event records and their details (R185). -/
inductive Event where
  | diverged (divergences : Nat)
  | toneBypassOn (dir : ToneDirection)
  | toneBypassOff
  | highwayLost
  | highwayRestored
  | profileSwitched (group : GroupNo) (old new : ProfileNo) (cause : SwitchCause)
  deriving DecidableEq, Repr

/-- Summary payload (R184); the reference is absent for a test. -/
structure Summary where
  ref : Option Nat
  reason : EndReason
  profile : ProfileNo
  conv : Convergence
  rGain : Int
  tGain : Int
  stats : Stats
  /-- the error-summary mark -/
  error : Bool
  deriving DecidableEq, Repr

/-- One slot's share of a coefficient capture (R189, R190). -/
structure Capture where
  profile : ProfileNo
  bulkDelay : Nat
  window : Nat
  firstTap : Nat
  taps : List Int
  deriving DecidableEq, Repr

/-- A record's payload; its kind is its constructor (R181). -/
inductive Payload where
  | summary (s : Summary)
  | event (e : Event)
  | capture (c : Capture)
  deriving DecidableEq, Repr

/-- The timestamp of a record (R170). -/
structure Stamp where
  time : TimeOfDay
  fis : Nat
  deriving DecidableEq, Repr

/-- A closed record: the header of R181 and the payload. -/
structure Record where
  dest : Link
  seq : Nat
  channel : Option ChannelNo
  stamp : Stamp
  first : Bool
  last : Bool
  truncated : Bool
  dropped : Nat
  payload : Payload
  deriving DecidableEq, Repr

/-- A ring slot: DEVICE's, or a link's with a closed record (R178). -/
inductive Slot where
  | device
  | owned (l : Link) (r : Record)
  deriving DecidableEq, Repr

/-- One value for each link, or for each record destination. -/
structure PerLink (α : Type) where
  c : α
  m : α
  deriving DecidableEq, Repr

/-- The record ring (chapter 9). -/
structure Ring where
  slots : Table Slot 64
  writePos : SlotNo
  nextSeq : PerLink Nat
  drops : PerLink Nat
  deriving DecidableEq, Repr

/-! ## Link controllers (chapter 10) -/

/-- Receiver state; RECEIVING holds the frame in progress, start byte included (R202). -/
inductive Receiver where
  | hunt
  | settle
  | ready
  | receiving (bytes : List Byte)
  deriving DecidableEq, Repr

/-- Link error kinds (R203). -/
inductive LinkErrorKind where
  | badStart
  | badLength
  | timeout
  | badCheck
  | overrun
  deriving DecidableEq, Repr

/-- The attention conditions of one link with their details (R210). RECORDS_WAITING is the ring's report of R194:
the number of slots the link owns and the oldest of them. CUSTODY_NOTICE is the C-link's alone; CLOCK_ALERT and
BLOCK_DONE are the M-link's. -/
structure Conditions where
  restarted : Option Lock
  /-- last kind and count -/
  linkError : Option (LinkErrorKind × Nat)
  highwayFault : Bool
  /-- channel set, bit k for channel k; pending while not empty -/
  custodyNotice : BitVec 32
  clockAlert : Bool
  /-- channel set, bit k for channel k; pending while not empty -/
  blockDone : BitVec 32
  owned : Nat
  oldest : Option SlotNo
  deriving DecidableEq, Repr

/-- One link controller (chapter 10). -/
structure LinkCtl where
  rx : Receiver
  /-- the response being sent; none while the transmitter is idle -/
  tx : Option (List Byte)
  busy : Bool
  base : ChannelNo
  mask : Fin 7
  conds : Conditions
  /-- ATN_C or ATN_M is active (driven low, R213) -/
  line : Bool
  deriving DecidableEq, Repr

/-! ## The whole part -/

/-- The state of the part. -/
structure State where
  /-- RESET_N is asserted (R199) -/
  resetAsserted : Bool
  highway : Highway
  clock : Clock
  /-- the current frame raises a second tick that has not been taken (R13) -/
  tickDue : Bool
  schedule : Table Entry 24
  channels : Table Channel 32
  profiles : Table Profile 16
  groups : Table Group 8
  ring : Ring
  links : PerLink LinkCtl
  /-- a DEVICE RESTART waits for the last byte of its response (R200) -/
  restartPending : Bool
  /-- the model's own: how many free choices of order have been drawn (Config.switchRank, assumption 3) -/
  freeDraws : Nat
  /-- the model's own: commands that wait, first in, first out (assumption 1) -/
  pending : List Instr
  deriving DecidableEq, Repr

/-! ## Power-on values -/

/-- The call statistics of R134. -/
def Stats.zero : Stats :=
  { duration := 0, goodBlocks := 0, nearBlocks := 0, saturations := 0, clipsR := 0, clipsT := 0,
    toneEntries := 0, divergences := 0 }

/-- R43. -/
def Echo.powerOn : Echo :=
  { history := Table.replicate 1472 0, taps := Table.replicate 512 0, energy := 0, peak := 0 }

/-- R69. -/
def Near.powerOn : Near :=
  { hangover := 0, blanking := 0, ps := 0, pe := 0, nsc := 0, ac := 0, cancelling := false,
    nlpMark := false, conv := .untrained, goodRun := 0, badRun := 0, divRun := 0 }

/-- R84, one direction. -/
def ToneDir.powerOn : ToneDir :=
  { last := 0, crossings := 0, power := 0, prevPower := 0, run := 0 }

/-- R84. -/
def Tone.powerOn : Tone :=
  { trunk := ToneDir.powerOn, exchange := ToneDir.powerOn, observed := 0, bypassMark := false,
    bypassed := false, quietRun := 0 }

/-- R106: profile 0's pad, 0. -/
def Level.powerOn : Level :=
  { gain := 0, raiseRun := 0, sum := 0, clipMark := false }

/-- R134, R43, R69, R84, R106. -/
def Channel.powerOn : Channel :=
  { custody := .idle, group := 0, profile := 0, params := profileZero, forceBypass := false,
    freeze := false, capturePending := false, stats := Stats.zero, echo := Echo.powerOn,
    near := Near.powerOn, tone := Tone.powerOn, rLevel := Level.powerOn, tLevel := Level.powerOn,
    xOut := 0, zOut := 0, xNext := 0, zNext := 0, frameDue := false, blockDue := false }

/-- R15. -/
def Highway.powerOn : Highway :=
  { lock := .acquiring, goodRun := 0, badRun := 0, lastPulse := none, expected := none,
    misplaced := false, bclkStop := none, frame := 0 }

/-- 00:00:00. -/
def TimeOfDay.midnight : TimeOfDay := { hour := 0, minute := 0, second := 0 }

/-- R177. -/
def Clock.powerOn : Clock :=
  { year := 0, month := 1, day := 1, time := TimeOfDay.midnight, weekday := 0, fis := 0,
    state := .unset }

/-- R177. -/
def Entry.powerOn : Entry :=
  { inUse := false, group := 0, start := TimeOfDay.midnight, stop := TimeOfDay.midnight, mask := 0#7,
    profile := 0 }

/-- R160. -/
def Profile.powerOn : Profile := { fields := profileZero, held := false }

/-- R160. -/
def Group.powerOn : Group := { default := 0, scheduled := 0, stack := [], applied := 0 }

/-- R197, R198. -/
def Ring.powerOn : Ring :=
  { slots := Table.replicate 64 .device, writePos := 0, nextSeq := ⟨0, 0⟩, drops := ⟨0, 0⟩ }

/-- No condition pending (R199). -/
def Conditions.quiet : Conditions :=
  { restarted := none, linkError := none, highwayFault := false, custodyNotice := 0#32,
    clockAlert := false, blockDone := 0#32, owned := 0, oldest := none }

/-- R199: mask 6, and DEVICE_RESTARTED pending, so the line is active. -/
def LinkCtl.powerOn : LinkCtl :=
  { rx := .hunt, tx := none, busy := false, base := 0, mask := 6,
    conds := { Conditions.quiet with restarted := some .acquiring }, line := true }

/-- The part right after the release of RESET_N (R199). What no rule gives a value for is DESIGN CHOICE, unsafe:
assumption 12. -/
def State.reset : State :=
  { resetAsserted := false, highway := Highway.powerOn, clock := Clock.powerOn, tickDue := false,
    schedule := Table.replicate 24 Entry.powerOn, channels := Table.replicate 32 Channel.powerOn,
    profiles := Table.replicate 16 Profile.powerOn, groups := Table.replicate 8 Group.powerOn,
    ring := Ring.powerOn, links := ⟨LinkCtl.powerOn, LinkCtl.powerOn⟩, restartPending := false,
    freeDraws := 0, pending := [] }

end Sys2Proof.Machine
end

