-- ==== Sys2Proof/Machine/Operands.lean ====
section
/-! DEFINITION. How parameters, response data and records are written as bytes (chapter 11): the fields of a
command, the encodings of named values, and the layouts of 11.3 and 11.4. -/

namespace Sys2Proof.Machine

/-! ## Numbers (R219) -/

/-- A two-byte unsigned field, high byte first. -/
def u16 (hi lo : Byte) : Nat := hi.toNat * 256 + lo.toNat

/-- One byte of an unsigned value. -/
def byteOf (n : Nat) : Byte := BitVec.ofNat 8 n

/-- A two-byte field, high byte first. -/
def u16Bytes (n : Nat) : List Byte := [byteOf (n / 256), byteOf n]

/-- A signed one-byte field. -/
def s8 (b : Byte) : Int := b.toInt

/-- A signed one-byte field as sent. -/
def s8Byte (i : Int) : Byte := BitVec.ofInt 8 i

/-- A tap as 24-bit two's complement, high byte first (R222). -/
def tapBytes (h : Int) : List Byte :=
  let v := (BitVec.ofInt 24 h).toNat
  [byteOf (v / 65536), byteOf (v / 256), byteOf v]

/-- A 32-bit channel set, channel 0 in bit 0 of the last byte (11.2). -/
def channelSetBytes (v : BitVec 32) : List Byte :=
  let n := v.toNat
  [byteOf (n / 16777216), byteOf (n / 65536), byteOf (n / 256), byteOf n]

/-- A mark, a flag or an enable (11.2). -/
def onOff (b : Bool) : Byte := if b then 0x01 else 0x00

/-- An enable parameter: 0 off, 1 on, anything else out of range (R219). -/
def parseOnOff (b : Byte) : Option Bool :=
  match b.toNat with
  | 0 => some false
  | 1 => some true
  | _ => none

/-- A number below `n` from a one-byte parameter; none when out of range. -/
def parseFin (n : Nat) (b : Byte) : Option (Fin n) :=
  if h : b.toNat < n then some ⟨b.toNat, h⟩ else none

/-! ## Results (11.2) -/

inductive Result where
  | ok | accepted
  | unknownCommand | badLength | badValue | badChannel | notPermitted
  | wrongState | inCall | inTest | duplicateCall | callMismatch | notOwner
  | stackFull | stackEmpty | notHeld | badTime
  deriving DecidableEq, Repr

def Result.code : Result → Byte
  | .ok => 0x00
  | .accepted => 0x01
  | .unknownCommand => 0x10
  | .badLength => 0x11
  | .badValue => 0x12
  | .badChannel => 0x13
  | .notPermitted => 0x14
  | .wrongState => 0x20
  | .inCall => 0x21
  | .inTest => 0x22
  | .duplicateCall => 0x23
  | .callMismatch => 0x24
  | .notOwner => 0x25
  | .stackFull => 0x26
  | .stackEmpty => 0x27
  | .notHeld => 0x28
  | .badTime => 0x29

/-- The response frame to a command (11.1, R220). -/
def responseFrame (code tag : Byte) (r : Result) (data : List Byte) : List Byte :=
  frameOf (code :: tag :: r.code :: data)

/-! ## Encodings of named values (11.2) -/

def Custody.code : Custody → Byte
  | .idle => 0x00
  | .call _ _ _ => 0x01
  | .test => 0x02

def Convergence.code : Convergence → Byte
  | .untrained => 0x00
  | .converging => 0x01
  | .converged => 0x02

def Lock.code : Lock → Byte
  | .acquiring => 0x00
  | .locked => 0x01
  | .lost => 0x02

def ClockState.code : ClockState → Byte
  | .unset => 0x00
  | .set => 0x01
  | .stale => 0x02

def LinkErrorKind.code : LinkErrorKind → Byte
  | .badStart => 0x01
  | .badLength => 0x02
  | .timeout => 0x03
  | .badCheck => 0x04
  | .overrun => 0x05

def EndReason.code : EndReason → Byte
  | .cleared => 0x01
  | .forced => 0x02
  | .testEnded => 0x03

def ToneDirection.code : ToneDirection → Byte
  | .trunk => 0x01
  | .exchange => 0x02
  | .both => 0x03

def SwitchCause.code : SwitchCause → Byte
  | .override => 0x01
  | .schedule => 0x02

/-- Destination of a record (11.2). -/
def destCode : Link → Byte
  | .cLink => 0x01
  | .mLink => 0x02

/-- A byte of marks, bit 0 first. -/
def marksByte (b0 b1 b2 : Bool) : Byte :=
  byteOf (b0.toNat + 2 * b1.toNat + 4 * b2.toNat)

/-! ## Parameters (11.3) -/

/-- Call options: bits 0 CANCEL, 1 NLP, 2 ALC; any other bit is out of range. -/
def parseOptions (b : Byte) : Option CallOptions :=
  if b.toNat < 8 then
    some { cancel := b.getLsbD 0, nlp := b.getLsbD 1, alc := b.getLsbD 2 }
  else none

def CallOptions.byte (o : CallOptions) : Byte := marksByte o.cancel o.nlp o.alc

/-- The flag that a selector names (11.2). -/
inductive FlagName where
  | forceBypass
  | freeze
  deriving DecidableEq, Repr

def parseFlag (b : Byte) : Option FlagName :=
  match b.toNat with
  | 1 => some .forceBypass
  | 2 => some .freeze
  | _ => none

/-- A path's level fields obey g_min ≤ p ≤ g_max within −12..12 and A_sp < A_lo < A_hi ≤ 32767 (R142). -/
def LevelFields.valid (f : LevelFields) : Bool :=
  -12 ≤ f.gMin && f.gMin ≤ f.pad && f.pad ≤ f.gMax && f.gMax ≤ 12 &&
    f.aSp < f.aLo && f.aLo < f.aHi && f.aHi ≤ 32767

/-- The ranges and relations of R142. -/
def ParamSet.valid (p : ParamSet) : Bool :=
  p.bulkDelay ≤ 960 &&
    (p.window == 128 || p.window == 256 || p.window == 384 || p.window == 512) &&
    1 ≤ p.mFast && p.mFast ≤ 6 && 1 ≤ p.nsRatio && p.nsRatio ≤ 16 && p.hangover ≤ 2000 &&
    p.nsFloor ≤ 4095 && 1 ≤ p.farFloor && p.farFloor ≤ 4095 && p.nlpDepth ≤ 4 &&
    p.rPath.valid && p.tPath.valid

/-- One path's ten level bytes (11.3). -/
def parseLevel (alc p gMin gMax lo1 lo0 hi1 hi0 sp1 sp0 : Byte) : Option LevelFields :=
  (parseOnOff alc).map fun on =>
    { alc := on, pad := s8 p, gMin := s8 gMin, gMax := s8 gMax, aLo := u16 lo1 lo0,
      aHi := u16 hi1 hi0, aSp := u16 sp1 sp0 }

/-- The 34 profile bytes of WRITE PROFILE, with the ranges and relations of R142; none when any fails. -/
def parseProfileFields (bytes : List Byte) : Option ParamSet :=
  match bytes with
  | d1 :: d0 :: w1 :: w0 :: m :: t :: h1 :: h0 :: n1 :: n0 :: f1 :: f0 :: depth :: tone ::
      ra :: rp :: rn :: rx :: rl1 :: rl0 :: rh1 :: rh0 :: rs1 :: rs0 ::
      ta :: tp :: tn :: tx :: tl1 :: tl0 :: th1 :: th0 :: ts1 :: ts0 :: [] => do
    let enable ← parseOnOff tone
    let r ← parseLevel ra rp rn rx rl1 rl0 rh1 rh0 rs1 rs0
    let t' ← parseLevel ta tp tn tx tl1 tl0 th1 th0 ts1 ts0
    let fields : ParamSet :=
      { bulkDelay := u16 d1 d0, window := u16 w1 w0, mFast := m.toNat, nsRatio := t.toNat,
        hangover := u16 h1 h0, nsFloor := u16 n1 n0, farFloor := u16 f1 f0,
        nlpDepth := depth.toNat, toneEnable := enable, rPath := r, tPath := t' }
    if fields.valid then some fields else none
  | _ => none

def LevelFields.bytes (f : LevelFields) : List Byte :=
  [onOff f.alc, s8Byte f.pad, s8Byte f.gMin, s8Byte f.gMax] ++ u16Bytes f.aLo ++ u16Bytes f.aHi ++
    u16Bytes f.aSp

/-- The 34 profile bytes as READ PROFILE sends them (11.3). -/
def ParamSet.bytes (p : ParamSet) : List Byte :=
  u16Bytes p.bulkDelay ++ u16Bytes p.window ++ [byteOf p.mFast, byteOf p.nsRatio] ++
    u16Bytes p.hangover ++ u16Bytes p.nsFloor ++ u16Bytes p.farFloor ++
    [byteOf p.nlpDepth, onOff p.toneEnable] ++ p.rPath.bytes ++ p.tPath.bytes

/-- Length of a month; February has 29 days in years divisible by 4 (R161). -/
def monthLength (year month : Nat) : Nat :=
  match month with
  | 1 => 31
  | 2 => if year % 4 = 0 then 29 else 28
  | 3 => 31
  | 4 => 30
  | 5 => 31
  | 6 => 30
  | 7 => 31
  | 8 => 31
  | 9 => 30
  | 10 => 31
  | 11 => 30
  | 12 => 31
  | _ => 0

def TimeOfDay.valid (t : TimeOfDay) : Bool :=
  t.hour ≤ 23 && t.minute ≤ 59 && t.second ≤ 59

/-- The checks of R166 on the date, the time and the weekday. -/
def Clock.valid (c : Clock) : Bool :=
  c.year ≤ 99 && 1 ≤ c.month && c.month ≤ 12 && 1 ≤ c.day && c.day ≤ monthLength c.year c.month &&
    c.time.valid && c.weekday ≤ 6

/-- The clock that TIME SET loads (R166, R167); none when a check fails. -/
def parseTime (y mo d h mi s w : Byte) : Option Clock :=
  let c : Clock :=
    { year := y.toNat, month := mo.toNat, day := d.toNat,
      time := { hour := h.toNat, minute := mi.toNat, second := s.toNat },
      weekday := w.toNat, fis := 0, state := .set }
  if c.valid then some c else none

def parseTimeOfDay (h m s : Byte) : Option TimeOfDay :=
  let t : TimeOfDay := { hour := h.toNat, minute := m.toNat, second := s.toNat }
  if t.valid then some t else none

/-- The schedule entry that WRITE ENTRY carries, in use (R172); none when a check fails. -/
def parseEntry (g sh sm ss eh em es mask p : Byte) : Option Entry := do
  let group ← parseFin 8 g
  let start ← parseTimeOfDay sh sm ss
  let stop ← parseTimeOfDay eh em es
  let profile ← parseFin 16 p
  if mask.toNat < 128 then
    some { inUse := true, group := group, start := start, stop := stop, mask := mask.truncate 7,
           profile := profile }
  else none

/-! ## Response data (11.3) -/

def TimeOfDay.bytes (t : TimeOfDay) : List Byte := [byteOf t.hour, byteOf t.minute, byteOf t.second]

/-- TIME READ data. -/
def Clock.bytes (c : Clock) : List Byte :=
  [c.state.code, byteOf c.year, byteOf c.month, byteOf c.day] ++ c.time.bytes ++ [byteOf c.weekday] ++
    u16Bytes c.fis

/-- READ ENTRY data. -/
def Entry.bytes (e : Entry) : List Byte :=
  [onOff e.inUse, byteOf e.group.val] ++ e.start.bytes ++ e.stop.bytes ++
    [e.mask.zeroExtend 8, byteOf e.profile.val]

/-- READ PROFILE data. -/
def Profile.bytes (p : Profile) : List Byte := onOff p.held :: p.fields.bytes

/-- A stack position of READ GROUP, 0xFF beyond the depth. -/
def stackByte (stack : List ProfileNo) (k : Nat) : Byte :=
  match stack[k]? with
  | some p => byteOf p.val
  | none => 0xFF

/-- READ GROUP data; `held` is the state of the applied profile (R155). -/
def Group.bytes (g : Group) (held : Bool) : List Byte :=
  [byteOf g.default.val, byteOf g.scheduled.val, byteOf g.stack.length, stackByte g.stack 0,
    stackByte g.stack 1, stackByte g.stack 2, stackByte g.stack 3, byteOf g.applied.val, onOff held]

/-- The eight call statistics, in the order and widths of READ CHANNEL (11.3). -/
def Stats.bytes (s : Stats) : List Byte :=
  u16Bytes s.duration ++ u16Bytes s.goodBlocks ++ u16Bytes s.nearBlocks ++ u16Bytes s.saturations ++
    u16Bytes s.clipsR ++ u16Bytes s.clipsT ++ [byteOf s.toneEntries, byteOf s.divergences]

/-! ## Records (11.4) -/

def Payload.kindCode : Payload → Byte
  | .summary _ => 0x01
  | .capture _ => 0x02
  | .event _ => 0x03

/-- Event code and four detail bytes. -/
def Event.bytes : Event → List Byte
  | .diverged n => [0x01, byteOf n, 0x00, 0x00, 0x00]
  | .toneBypassOn d => [0x02, d.code, 0x00, 0x00, 0x00]
  | .toneBypassOff => [0x03, 0x00, 0x00, 0x00, 0x00]
  | .highwayLost => [0x04, 0x00, 0x00, 0x00, 0x00]
  | .highwayRestored => [0x05, 0x00, 0x00, 0x00, 0x00]
  | .profileSwitched g a b c => [0x06, byteOf g.val, byteOf a.val, byteOf b.val, c.code]

def Summary.bytes (s : Summary) : List Byte :=
  u16Bytes (s.ref.getD 0) ++
    [s.reason.code, byteOf s.profile.val, s.conv.code, s8Byte s.rGain, s8Byte s.tGain] ++
    s.stats.bytes ++ [onOff s.error]

def Capture.bytes (c : Capture) : List Byte :=
  [byteOf c.profile.val] ++ u16Bytes c.bulkDelay ++ u16Bytes c.window ++ u16Bytes c.firstTap ++
    c.taps.flatMap tapBytes

def Payload.bytes : Payload → List Byte
  | .summary s => s.bytes
  | .event e => e.bytes
  | .capture c => c.bytes

/-- A record as READ SLOT sends it: the 12-byte header and the payload (R221). -/
def Record.bytes (r : Record) : List Byte :=
  [r.payload.kindCode, destCode r.dest] ++ u16Bytes r.seq ++
    [match r.channel with
      | some c => byteOf c.val
      | none => 0xFF] ++
    r.stamp.time.bytes ++ u16Bytes r.stamp.fis ++
    [marksByte r.first r.last r.truncated, byteOf r.dropped] ++ r.payload.bytes

end Sys2Proof.Machine
end

