-- ==== Sys2Proof/Machine/Flags.lean ====
section
/-! DEFINITION. Flags: the two channel flags, the cancelling condition and bypass reasons, counters that
saturate, and the attention conditions of a link with their priorities, details, clearing and line. -/

namespace Sys2Proof.Machine

/-- A counter saturating at `n` is incremented (Conventions, "saturating at N"). -/
def satInc (n v : Nat) : Nat := if v < n then v + 1 else v

/-! ## Channel flags and bypass (R26, R28, R125) -/

def Channel.flag (c : Channel) : FlagName → Bool
  | .forceBypass => c.forceBypass
  | .freeze => c.freeze

def Channel.setFlag (c : Channel) (f : FlagName) (v : Bool) : Channel :=
  match f with
  | .forceBypass => { c with forceBypass := v }
  | .freeze => { c with freeze := v }

/-- The channel is in CALL or TEST. -/
def Channel.active (c : Channel) : Bool :=
  match c.custody with
  | .idle => false
  | .call _ _ _ => true
  | .test => true

/-- Bypass reason OPTION: in CALL with CANCEL off (R28). -/
def Channel.bypassOption (c : Channel) : Bool :=
  match c.custody with
  | .call _ o _ => !o.cancel
  | _ => false

/-- Bypass reason FLAG (R28). -/
def Channel.bypassFlag (c : Channel) : Bool := c.active && c.forceBypass

/-- Bypass reason TONE (R28). -/
def Channel.bypassTone (c : Channel) : Bool := c.active && c.tone.bypassed

/-- The four conditions of R26. -/
def Channel.cancelling (c : Channel) : Bool :=
  match c.custody with
  | .idle => false
  | .call _ o _ => o.cancel && !c.forceBypass && !c.tone.bypassed
  | .test => !c.forceBypass && !c.tone.bypassed

/-- The call option NLP is on, or the channel is in TEST (R65). -/
def Channel.nlpOn (c : Channel) : Bool :=
  match c.custody with
  | .idle => false
  | .call _ o _ => o.nlp
  | .test => true

/-- The call option ALC is on, or the channel is in TEST (R95). -/
def Channel.alcOn (c : Channel) : Bool :=
  match c.custody with
  | .idle => false
  | .call _ o _ => o.alc
  | .test => true

/-- The block-pending mark (R107). -/
def Channel.blockPending (c : Channel) : Bool :=
  match c.custody with
  | .call _ _ b => b
  | _ => false

/-- The channel is in CALL and its reference is `ref` (R109). -/
def Channel.holdsRef (c : Channel) (ref : Nat) : Bool :=
  match c.custody with
  | .call r _ _ => r == ref
  | _ => false

/-- READ CHANNEL data (R124, 11.3). -/
def Channel.bytes (c : Channel) : List Byte :=
  [c.custody.code] ++
    (match c.custody with
      | .call r o _ => u16Bytes r ++ [o.byte]
      | _ => [0x00, 0x00, 0x00]) ++
    [marksByte c.blockPending c.capturePending false, byteOf c.group.val, byteOf c.profile.val,
      marksByte c.forceBypass c.freeze false, c.near.conv.code, onOff c.tone.bypassed,
      marksByte c.bypassOption c.bypassFlag c.bypassTone, s8Byte c.rLevel.gain, s8Byte c.tLevel.gain] ++
    u16Bytes c.near.hangover ++ c.stats.bytes

/-! ## Attention (10.4) -/

/-- One line of R210's table as it stands: priority, whether pending, condition code and the four detail
bytes. -/
structure Attention where
  priority : Nat
  isPending : Bool
  code : Byte
  detail : List Byte
  deriving DecidableEq, Repr

def Conditions.restartedLine (c : Conditions) : Attention :=
  { priority := 1, isPending := c.restarted.isSome, code := 0x01,
    detail := [match c.restarted with | some k => k.code | none => 0x00, 0x00, 0x00, 0x00] }

def Conditions.linkErrorLine (c : Conditions) : Attention :=
  { priority := 2, isPending := c.linkError.isSome, code := 0x02,
    detail := match c.linkError with
      | some (k, n) => [k.code, byteOf n, 0x00, 0x00]
      | none => [0x00, 0x00, 0x00, 0x00] }

def Conditions.faultLine (c : Conditions) (lock : Lock) : Attention :=
  { priority := 3, isPending := c.highwayFault, code := 0x03,
    detail := [lock.code, 0x00, 0x00, 0x00] }

def Conditions.noticeLine (c : Conditions) : Attention :=
  { priority := 4, isPending := c.custodyNotice != 0#32, code := 0x04,
    detail := channelSetBytes c.custodyNotice }

def Conditions.clockLine (c : Conditions) (clock : ClockState) : Attention :=
  { priority := 4, isPending := c.clockAlert, code := 0x05,
    detail := [clock.code, 0x00, 0x00, 0x00] }

def Conditions.blockDoneLine (c : Conditions) : Attention :=
  { priority := 5, isPending := c.blockDone != 0#32, code := 0x06,
    detail := channelSetBytes c.blockDone }

def Conditions.recordsLine (c : Conditions) (priority : Nat) : Attention :=
  { priority := priority, isPending := c.owned != 0, code := 0x07,
    detail := [byteOf c.owned, match c.oldest with | some k => byteOf k.val | none => 0x00, 0x00, 0x00] }

/-- The conditions of a link in priority order (R210). -/
def Conditions.lines (l : Link) (lock : Lock) (clock : ClockState) (c : Conditions) : List Attention :=
  match l with
  | .cLink => [c.restartedLine, c.linkErrorLine, c.faultLine lock, c.noticeLine, c.recordsLine 5]
  | .mLink =>
    [c.restartedLine, c.linkErrorLine, c.faultLine lock, c.clockLine clock, c.blockDoneLine,
      c.recordsLine 6]

/-- A condition is pending and its priority number does not exceed the mask (R212). -/
def Attention.admitted (mask : Fin 7) (a : Attention) : Bool :=
  a.isPending && decide (a.priority ≤ mask.val)

/-- The line is active (R213); lock and clock states enter no condition's pending mark or priority. -/
def Conditions.drives (l : Link) (mask : Fin 7) (c : Conditions) : Bool :=
  (c.lines l .acquiring .unset).any (Attention.admitted mask)

/-- The line brought into step with the conditions and the mask (R213). -/
def LinkCtl.refresh (l : Link) (k : LinkCtl) : LinkCtl :=
  { k with line := k.conds.drives l k.mask }

/-- A change of conditions, and the line after it. -/
def LinkCtl.withConds (l : Link) (k : LinkCtl) (c : Conditions) : LinkCtl :=
  LinkCtl.refresh l { k with conds := c }

/-- A link error raised (R203): last kind, and a count saturating at 255. -/
def Conditions.raiseLinkError (k : LinkErrorKind) (c : Conditions) : Conditions :=
  match c.linkError with
  | some (_, n) => { c with linkError := some (k, satInc 255 n) }
  | none => { c with linkError := some (k, 1) }

/-- HIGHWAY_FAULT raised (R211). -/
def Conditions.raiseFault (c : Conditions) : Conditions := { c with highwayFault := true }

/-- CLOCK_ALERT raised (R211). -/
def Conditions.raiseClockAlert (c : Conditions) : Conditions := { c with clockAlert := true }

/-- CLOCK_ALERT cleared by TIME SET (R217). -/
def Conditions.clearClockAlert (c : Conditions) : Conditions := { c with clockAlert := false }

/-- The one-channel set. -/
def channelBit (ch : ChannelNo) : BitVec 32 := 1#32 <<< ch.val

/-- A channel joins CUSTODY_NOTICE's set (R211). -/
def Conditions.joinNotice (ch : ChannelNo) (c : Conditions) : Conditions :=
  { c with custodyNotice := c.custodyNotice ||| channelBit ch }

/-- A channel joins BLOCK_DONE's set (R211). -/
def Conditions.joinBlockDone (ch : ChannelNo) (c : Conditions) : Conditions :=
  { c with blockDone := c.blockDone ||| channelBit ch }

/-- What a read clears: each unmasked condition that clears on read (R214 to R218). -/
def Conditions.afterRead (l : Link) (mask : Fin 7) (lock : Lock) (c : Conditions) : Conditions :=
  { c with
    restarted := if 1 ≤ mask.val then none else c.restarted
    linkError := if 2 ≤ mask.val then none else c.linkError
    highwayFault := if 3 ≤ mask.val ∧ lock = .locked then false else c.highwayFault
    custodyNotice := if l = .cLink ∧ 4 ≤ mask.val then 0#32 else c.custodyNotice
    blockDone := if l = .mLink ∧ 5 ≤ mask.val then 0#32 else c.blockDone }

/-- One entry of READ ATTENTION data: condition, masked mark, detail (11.3). -/
def Attention.bytes (mask : Fin 7) (a : Attention) : List Byte :=
  [a.code, onOff (decide (mask.val < a.priority))] ++ a.detail

/-- READ ATTENTION data: the count and every pending condition in priority order (R214). -/
def Conditions.bytes (l : Link) (mask : Fin 7) (lock : Lock) (clock : ClockState) (c : Conditions) :
    List Byte :=
  let listed := (c.lines l lock clock).filter Attention.isPending
  byteOf listed.length :: listed.flatMap (Attention.bytes mask)

end Sys2Proof.Machine
end

