-- ==== Sys2Proof/Machine/Canceller.lean ====
section
/-! DEFINITION. The canceller engine's arithmetic on one channel (chapter 2): history, window, estimate,
residual and adaptation. Integer division `/` by the positive constants below rounds toward minus infinity. -/

namespace Sys2Proof.Machine

/-- Clamped, or saturated, to `lo..hi` (Conventions). -/
def clampTo (lo hi v : Int) : Int := max lo (min v hi)

/-- A sample saturated to −32768..32767 (R32, R33, R87). -/
def saturate (v : Int) : Int := clampTo (-32768) 32767 v

/-- The window's samples x[n−D] .. x[n−D−W+1], newest first (R18). -/
def Echo.windowSamples (p : ParamSet) (e : Echo) : List Int :=
  (e.history.data.drop p.bulkDelay).take p.window

/-- Σ x² (R19). -/
def sumSquares (xs : List Int) : Nat := xs.foldr (fun x a => x.natAbs * x.natAbs + a) 0

/-- The largest magnitude (R19). -/
def largestMagnitude (xs : List Int) : Nat := xs.foldr (fun x a => max x.natAbs a) 0

/-- P and Xpk taken over the window as it stands (R20). -/
def Echo.measure (p : ParamSet) (e : Echo) : Echo :=
  { e with energy := sumSquares (e.windowSamples p), peak := largestMagnitude (e.windowSamples p) }

/-- A new newest sample; the oldest leaves (R16). -/
def pushHistory (x : Int) (h : Table Int 1472) : Table Int 1472 :=
  ⟨(x :: h.data).take 1472, by rw [List.length_take, List.length_cons, h.size]; rfl⟩

/-- Stage 2: x enters the history, and P and Xpk are brought up to date (R16, R20, R30). -/
def Echo.enter (p : ParamSet) (x : Int) (e : Echo) : Echo :=
  Echo.measure p { e with history := pushHistory x e.history }

/-- Restoration and power-on: the history all zeros, P and Xpk 0 (R9, R17, R20). -/
def Echo.zeroHistory (e : Echo) : Echo :=
  { e with history := Table.replicate 1472 0, energy := 0, peak := 0 }

/-- The coefficient clear (R24). -/
def Echo.clearTaps (e : Echo) : Echo := { e with taps := Table.replicate 512 0 }

/-- δ (R18). -/
def regularisation (p : ParamSet) : Nat := 16 * p.window

/-- acc, the exact sum of tap times window sample (R31). -/
def tapSum (taps xs : List Int) : Int := (List.zipWith (fun h x => h * x) taps xs).foldr (· + ·) 0

/-- y before the bypass test: rounded half up and saturated (R31, R32). -/
def estimate (acc : Int) : Int := saturate ((acc + 2097152) / 4194304)

/-- Stage 3: y (R31). -/
def Echo.estimate (p : ParamSet) (cancelling : Bool) (e : Echo) : Int :=
  if cancelling then Machine.estimate (tapSum e.taps.data (e.windowSamples p)) else 0

/-- Stage 4: e = s − y, saturated (R33). -/
def residual (s y : Int) : Int := saturate (s - y)

/-- The step factor A: the quotient truncated toward zero, then clamped (R35, R36). -/
def stepFactor (m : Nat) (e : Int) (divisor : Nat) : Int :=
  clampTo (-2147483647) 2147483647 (Int.tdiv (e * 2 ^ (30 - m)) divisor)

/-- Δ_k (R37). -/
def tapIncrement (a x : Int) : Int := a * x / 256

/-- h_k + Δ_k clamped (R38). -/
def adaptTap (a h x : Int) : Int := clampTo (-4194304) 4194303 (h + tapIncrement a x)

/-- The tap is clamped in the sample (R38). -/
def tapClamped (a h x : Int) : Bool :=
  decide (h + tapIncrement a x < -4194304) || decide (4194303 < h + tapIncrement a x)

/-- The taps that meet a window sample are adapted; those beyond the window are kept (R22, R38). -/
def adaptTaps (a : Int) : List Int → List Int → List Int
  | h :: hs, x :: xs => adaptTap a h x :: adaptTaps a hs xs
  | hs, _ => hs

/-- At least one tap is clamped in the sample (R39). -/
def anyTapClamped (a : Int) : List Int → List Int → Bool
  | h :: hs, x :: xs => tapClamped a h x || anyTapClamped a hs xs
  | _, _ => false

theorem adaptTaps_length (a : Int) : ∀ hs xs, (adaptTaps a hs xs).length = hs.length
  | [], _ => by simp [adaptTaps]
  | _ :: _, [] => by simp [adaptTaps]
  | _ :: hs, _ :: xs => by simp [adaptTaps, adaptTaps_length a hs xs]

/-- The step factor of an adapted sample with residual `res` and exponent `m` (R35, R36). -/
def Echo.step (p : ParamSet) (m : Nat) (res : Int) (e : Echo) : Int :=
  stepFactor m res (e.energy + regularisation p)

/-- Stage 6 of an adapted sample (R34 to R38). -/
def Echo.adapt (p : ParamSet) (m : Nat) (res : Int) (e : Echo) : Echo :=
  { e with
    taps := ⟨adaptTaps (e.step p m res) e.taps.data (e.windowSamples p), by
      rw [adaptTaps_length]; exact e.taps.size⟩ }

/-- Whether stage 6 clamped a tap (R39). -/
def Echo.clamps (p : ParamSet) (m : Nat) (res : Int) (e : Echo) : Bool :=
  anyTapClamped (e.step p m res) e.taps.data (e.windowSamples p)

end Sys2Proof.Machine
end

