-- ==== Sys2Proof/Machine/NearSpeech.lean ====
section
/-! DEFINITION. The near-speech and convergence unit on one channel (chapter 3): the near-speech test, the
adaptation decision, suppression, block classification and the convergence state machine. -/

namespace Sys2Proof.Machine

/-! ## Per sample -/

/-- Near speech is declared (R46). -/
def nearDeclared (p : ParamSet) (peak : Nat) (s : Int) : Bool :=
  decide (p.nsFloor ≤ s.natAbs) && decide (p.nsRatio * peak ≤ 8 * s.natAbs)

/-- The hangover counter after a sample (R47). -/
def hangoverAfter (p : ParamSet) (declared : Bool) (count : Nat) : Nat :=
  if declared then p.hangover else count - 1

/-- Near speech is active in the sample (R47). -/
def nearActive (declared : Bool) (after : Nat) : Bool := declared || decide (0 < after)

/-- The six conditions of R51; `near` is "near speech is active", `held` the state of the applied profile. -/
def adaptAllowed (p : ParamSet) (cancelling near freeze held : Bool) (peak blanking : Nat) : Bool :=
  cancelling && !near && decide (p.farFloor ≤ peak) && !freeze && !held && decide (blanking = 0)

/-- The convergence state after stage 5 (R52). -/
def convAfterDecision (allowed : Bool) (c : Convergence) : Convergence :=
  match c with
  | .untrained => if allowed then .converging else .untrained
  | .converging => .converging
  | .converged => .converged

/-- The step exponent m (R53). -/
def stepExponent (p : ParamSet) (c : Convergence) : Nat :=
  match c with
  | .converged => min (p.mFast + 2) 8
  | .converging => p.mFast
  | .untrained => p.mFast

/-- The six conditions of R65. -/
def suppressActive (p : ParamSet) (cancelling near nlpOn : Bool) (conv : Convergence) (peak : Nat) :
    Bool :=
  cancelling && decide (conv = .converged) && !near && decide (p.farFloor ≤ peak) &&
    decide (1 ≤ p.nlpDepth) && decide (p.nlpDepth ≤ 4) && nlpOn

/-- u (R66). -/
def suppress (p : ParamSet) (active : Bool) (e : Int) : Int :=
  if active then Int.tdiv e (2 ^ p.nlpDepth) else e

/-- The unit's items after one sample of CALL or TEST (R47, R50, R52, R54, R67). -/
def Near.sample (n : Near) (hang : Nat) (conv : Convergence)
    (cancelling near allowed suppressed : Bool) (s e : Int) : Near :=
  { n with
    hangover := hang
    blanking := n.blanking - 1
    ps := n.ps + s.natAbs * s.natAbs
    pe := n.pe + e.natAbs * e.natAbs
    nsc := n.nsc + near.toNat
    ac := n.ac + allowed.toNat
    cancelling := cancelling
    nlpMark := n.nlpMark || suppressed
    conv := conv }

/-- One sample of an IDLE channel: only blanking counts down (R50, R71). -/
def Near.idleSample (n : Near) : Near := { n with blanking := n.blanking - 1 }

/-! ## Clears (R55, R64) -/

/-- The classification sums emptied. -/
def Near.emptySums (n : Near) : Near := { n with ps := 0, pe := 0, nsc := 0, ac := 0 }

/-- Every accumulator emptied (R55). -/
def Near.emptyBlock (n : Near) : Near := { n.emptySums with nlpMark := false }

/-- The convergence clear (R64). -/
def Near.clearConvergence (n : Near) : Near :=
  { n.emptySums with conv := .untrained, goodRun := 0, badRun := 0, divRun := 0 }

/-- The convergence clear with the hangover set to 0 (R64: start clear, RESTART CHANNEL). -/
def Near.startClear (n : Near) : Near := { n.clearConvergence with hangover := 0 }

/-- DEVICE RESTART (R70). -/
def Near.restart (n : Near) : Near :=
  { n.startClear with blanking := 0, nlpMark := false }

/-- Restoration (R9, R50, R55). -/
def Near.restore (n : Near) : Near := { n.emptyBlock with blanking := 40 }

/-! ## Block end -/

/-- The outcome of classification (R56). -/
inductive BlockClass where
  | unqualified
  | good
  | nonGood
  | diverging
  deriving DecidableEq, Repr

/-- The classification of R56 for a channel in CALL or TEST. -/
def Near.classify (n : Near) : BlockClass :=
  if n.cancelling && decide (n.nsc = 0) && decide (20 ≤ n.ac) then
    if 16 * n.pe ≤ n.ps then .good
    else if 2 * n.ps < n.pe then .diverging
    else .nonGood
  else .unqualified

/-- Divergence recovery takes place: the third diverging block in CONVERGING or CONVERGED (R61). -/
def Near.recovers (n : Near) (k : BlockClass) : Bool :=
  decide (n.conv ≠ .untrained) && decide (k = .diverging) && decide (3 ≤ n.divRun + 1)

/-- A block that is not good in CONVERGED (R60). -/
def Near.badBlock (n : Near) : Near :=
  if 4 ≤ n.badRun + 1 then { n with conv := .converging, goodRun := 0, badRun := 0 }
  else { n with badRun := n.badRun + 1 }

/-- The convergence state and runs after a block that brings no recovery (R59, R60, R61). -/
def Near.moveRuns (n : Near) (k : BlockClass) : Near :=
  match n.conv, k with
  | .untrained, _ => n
  | _, .unqualified => n
  | .converging, .good =>
    if 8 ≤ n.goodRun + 1 then { n with conv := .converged, goodRun := 0, badRun := 0, divRun := 0 }
    else { n with goodRun := n.goodRun + 1, divRun := 0 }
  | .converging, .nonGood => { n with goodRun := 0, divRun := 0 }
  | .converging, .diverging => { n with goodRun := 0, divRun := n.divRun + 1 }
  | .converged, .good => { n with badRun := 0, divRun := 0 }
  | .converged, .nonGood => { n.badBlock with divRun := 0 }
  | .converged, .diverging => { n.badBlock with divRun := n.divRun + 1 }

/-- The unit's items after the block end of a channel in CALL or TEST, accumulators emptied (R55 to R62). -/
def Near.closeBlock (n : Near) : Near :=
  let k := n.classify
  (if n.recovers k then n.clearConvergence else n.moveRuns k).emptyBlock

end Sys2Proof.Machine
end

