-- ==== Sys2Proof/Machine/ToneDetector.lean ====
section
/-! DEFINITION. The tone detector on one channel (chapter 4). -/

namespace Sys2Proof.Machine

/-- A comparison is a sign change: one sample is negative and the other is not (R73). -/
def signChange (a b : Int) : Bool := decide (a < 0) != decide (b < 0)

/-- One observed sample in one direction (R73). -/
def ToneDir.observe (v : Int) (d : ToneDir) : ToneDir :=
  { d with
    last := v
    crossings := d.crossings + (signChange d.last v).toNat
    power := d.power + v.natAbs * v.natAbs }

/-- The observation of t and s at a frame event of CALL or TEST (R73). -/
def Tone.observe (t s : Int) (k : Tone) : Tone :=
  { k with
    trunk := k.trunk.observe t
    exchange := k.exchange.observe s
    observed := k.observed + 1
    bypassMark := k.bypassMark || k.bypassed }

/-- A direction's block is tone-like (R74). -/
def ToneDir.toneLike (observed : Nat) (d : ToneDir) : Bool :=
  decide (observed = 40) && decide (20 ≤ d.crossings) && decide (d.crossings ≤ 22) &&
    decide (2000000 ≤ d.power) &&
    decide (4 * ((d.power : Int) - d.prevPower).natAbs ≤ d.prevPower)

/-- The previous power becomes the block's power (R74). -/
def ToneDir.keepPower (d : ToneDir) : ToneDir := { d with prevPower := d.power }

/-- A direction's tone run moves while QUIET, held at 80 (R75). -/
def ToneDir.moveRun (observed : Nat) (d : ToneDir) : ToneDir :=
  { d with run := if d.toneLike observed then satInc 80 d.run else 0 }

/-- Crossing count and power emptied (R79). -/
def ToneDir.emptyBlock (d : ToneDir) : ToneDir := { d with crossings := 0, power := 0 }

/-- The block accumulators emptied (R79). -/
def Tone.emptyBlock (k : Tone) : Tone :=
  { k with
    trunk := k.trunk.emptyBlock, exchange := k.exchange.emptyBlock, observed := 0,
    bypassMark := false }

/-- The tone clear; the bypass mark is kept (R72). -/
def Tone.clear (k : Tone) : Tone := { Tone.powerOn with bypassMark := k.bypassMark }

/-- The block is quiet (R77). -/
def Tone.quiet (k : Tone) : Bool :=
  decide (k.trunk.power < 200000) && decide (k.exchange.power < 200000)

/-- The runs of a QUIET channel after R75. -/
def Tone.moveRuns (k : Tone) : Tone :=
  { k with trunk := k.trunk.moveRun k.observed, exchange := k.exchange.moveRun k.observed }

/-- Which run stands at 80 (R76). -/
def Tone.direction (k : Tone) : Option ToneDirection :=
  match decide (k.trunk.run = 80), decide (k.exchange.run = 80) with
  | true, true => some .both
  | true, false => some .trunk
  | false, true => some .exchange
  | false, false => none

/-- What one judged block end does to the tone state: the items after R74 to R78, before R79 empties the
accumulators, and the event record to hand to the ring. -/
def Tone.judge (enable : Bool) (k : Tone) : Tone × Option Event :=
  let judged : Tone := k.moveRuns
  let kept (j : Tone) : Tone :=
    { j with trunk := j.trunk.keepPower, exchange := j.exchange.keepPower }
  if k.bypassed then
    if k.quiet then
      if 50 ≤ k.quietRun + 1 then
        (kept { k with
            bypassed := false, quietRun := 0, trunk := { k.trunk with run := 0 },
            exchange := { k.exchange with run := 0 } },
          some .toneBypassOff)
      else (kept { k with quietRun := k.quietRun + 1 }, none)
    else (kept { k with quietRun := 0 }, none)
  else
    match enable, judged.direction with
    | true, some d => (kept { judged with bypassed := true, quietRun := 0 }, some (.toneBypassOn d))
    | _, _ => (kept judged, none)

end Sys2Proof.Machine
end

