-- ==== Sys2Proof/Machine/LevelSetting.lean ====
section
/-! DEFINITION. The level units on one path of one channel (chapter 5). -/

namespace Sys2Proof.Machine

/-- M[−12] .. M[12] (R85). -/
def gainTable : List Int :=
  [4115, 4618, 5181, 5813, 6523, 7318, 8211, 9213, 10338, 11599, 13014, 14602, 16384,
    18383, 20626, 23143, 25967, 29135, 32690, 36679, 41155, 46176, 51811, 58133, 65226]

/-- M[i] (R85). Every index in force lies in −12..12 (R90). -/
def multiplier (i : Int) : Int := gainTable.getD (i + 12).toNat 16384

/-- The rounded output before saturation (R86). -/
def gainRounded (i v : Int) : Int := (v * multiplier i + 8192) / 16384

/-- out (R86, R87). -/
def gainOut (i v : Int) : Int := saturate (gainRounded i v)

/-- The output saturated: a clip (R87). -/
def gainClips (i v : Int) : Bool :=
  decide (gainRounded i v < -32768) || decide (32767 < gainRounded i v)

/-- The accumulators after a sample with input v (R87, R92). -/
def Level.sample (v : Int) (k : Level) : Level :=
  { k with
    sum := k.sum + (gainOut k.gain v).natAbs
    clipMark := k.clipMark || gainClips k.gain v }

/-- The accumulators emptied (R93). -/
def Level.emptyBlock (k : Level) : Level := { k with sum := 0, clipMark := false }

/-- The level clear of one path (R91). -/
def Level.clear (f : LevelFields) : Level :=
  { gain := f.pad, raiseRun := 0, sum := 0, clipMark := false }

/-- Ab (R94). -/
def Level.blockLevel (k : Level) : Nat := k.sum / 40

/-- The five cases of R97, in order. -/
def Level.control (f : LevelFields) (k : Level) : Level :=
  if k.clipMark then { k with gain := max (k.gain - 2) f.gMin, raiseRun := 0 }
  else if f.aHi < k.blockLevel then { k with gain := max (k.gain - 1) f.gMin, raiseRun := 0 }
  else if f.aLo ≤ k.blockLevel then { k with raiseRun := 0 }
  else if f.aSp ≤ k.blockLevel then
    if 20 ≤ k.raiseRun + 1 then { k with gain := min (k.gain + 1) f.gMax, raiseRun := 0 }
    else { k with raiseRun := k.raiseRun + 1 }
  else k

/-- The ALC of a path is allowed for the block: conditions 1 to 4 of R95. -/
def alcAllowed (f : LevelFields) (alcOn held bypassMark : Bool) : Bool :=
  f.alc && alcOn && !held && !bypassMark

/-- A path's block end in CALL or TEST (R97, R100), accumulators emptied (R93). -/
def Level.closeBlock (f : LevelFields) (allowed : Bool) (k : Level) : Level :=
  (if allowed then k.control f else k).emptyBlock

/-- The index an apply gives (R102). -/
def appliedGain (f : LevelFields) (i : Int) : Int :=
  if f.alc then clampTo f.gMin f.gMax i else f.pad

/-- A path brought into line with a new parameter set (R102). -/
def Level.apply (f : LevelFields) (k : Level) : Level :=
  { k with
    gain := appliedGain f k.gain
    raiseRun := if appliedGain f k.gain = k.gain then k.raiseRun else 0 }

end Sys2Proof.Machine
end

