-- ==== Sys2Proof/Machine/Sample.lean ====
section
/-! DEFINITION. The work of one sample (R14, R30) and of one block end (R12) on one channel, as stages over the
signal units. Each stage is a definition of its own, so that a statement can name it. -/

namespace Sys2Proof.Machine

/-! ## The stages of a frame event in CALL or TEST (R30) -/

/-- Stage 1: x (R86). -/
def Channel.stageX (c : Channel) (t : Int) : Int := gainOut c.rLevel.gain t

/-- Stage 2: the engine after x has entered (R16, R20). -/
def Channel.stageEcho (c : Channel) (t : Int) : Echo := c.echo.enter c.params (c.stageX t)

/-- Stage 3: y (R31). -/
def Channel.stageY (c : Channel) (t : Int) : Int := (c.stageEcho t).estimate c.params c.cancelling

/-- Stage 4: e (R33). -/
def Channel.stageE (c : Channel) (t s : Int) : Int := residual s (c.stageY t)

/-- Stage 5: near speech declared (R46). -/
def Channel.stageDeclared (c : Channel) (t s : Int) : Bool :=
  nearDeclared c.params (c.stageEcho t).peak s

/-- Stage 5: the hangover counter (R47). -/
def Channel.stageHangover (c : Channel) (t s : Int) : Nat :=
  hangoverAfter c.params (c.stageDeclared t s) c.near.hangover

/-- Stage 5: near speech active (R47). -/
def Channel.stageNear (c : Channel) (t s : Int) : Bool :=
  nearActive (c.stageDeclared t s) (c.stageHangover t s)

/-- Stage 5: adaptation allowed (R51); `held` is the state of the channel's applied profile. -/
def Channel.stageAllowed (c : Channel) (held : Bool) (t s : Int) : Bool :=
  adaptAllowed c.params c.cancelling (c.stageNear t s) c.freeze held (c.stageEcho t).peak
    c.near.blanking

/-- Stage 5: the convergence state (R52). -/
def Channel.stageConv (c : Channel) (held : Bool) (t s : Int) : Convergence :=
  convAfterDecision (c.stageAllowed held t s) c.near.conv

/-- Stage 6: the step exponent (R53). -/
def Channel.stageM (c : Channel) (held : Bool) (t s : Int) : Nat :=
  stepExponent c.params (c.stageConv held t s)

/-- Stage 6: the engine after adaptation, if allowed (R34). -/
def Channel.stageAdapted (c : Channel) (held : Bool) (t s : Int) : Echo :=
  if c.stageAllowed held t s then
    (c.stageEcho t).adapt c.params (c.stageM held t s) (c.stageE t s)
  else c.stageEcho t

/-- Stage 6: some tap was clamped (R39). -/
def Channel.stageClamps (c : Channel) (held : Bool) (t s : Int) : Bool :=
  c.stageAllowed held t s && (c.stageEcho t).clamps c.params (c.stageM held t s) (c.stageE t s)

/-- Stage 7: suppression active (R65). -/
def Channel.stageSuppressed (c : Channel) (held : Bool) (t s : Int) : Bool :=
  suppressActive c.params c.cancelling (c.stageNear t s) c.nlpOn (c.stageConv held t s)
    (c.stageEcho t).peak

/-- Stage 7: u (R66). -/
def Channel.stageU (c : Channel) (held : Bool) (t s : Int) : Int :=
  suppress c.params (c.stageSuppressed held t s) (c.stageE t s)

/-- Stage 8: z (R86). -/
def Channel.stageZ (c : Channel) (held : Bool) (t s : Int) : Int :=
  gainOut c.tLevel.gain (c.stageU held t s)

/-- A statistic counted when `b` holds, saturating at `n`. -/
def countIf (n : Nat) (b : Bool) (v : Nat) : Nat := if b then satInc n v else v

/-- The statistics after a frame event in CALL or TEST (R39, R87). -/
def Channel.stageStats (c : Channel) (held : Bool) (t s : Int) : Stats :=
  { c.stats with
    saturations := countIf 65535 (c.stageClamps held t s) c.stats.saturations
    clipsR := countIf 65535 (gainClips c.rLevel.gain t) c.stats.clipsR
    clipsT := countIf 65535 (gainClips c.tLevel.gain (c.stageU held t s)) c.stats.clipsT }

/-- The frame event of a channel in CALL or TEST (R30, R73). -/
def Channel.activeFrame (held : Bool) (t s : Int) (c : Channel) : Channel :=
  { c with
    echo := c.stageAdapted held t s
    near := c.near.sample (c.stageHangover t s) (c.stageConv held t s) c.cancelling
      (c.stageNear t s) (c.stageAllowed held t s) (c.stageSuppressed held t s) s (c.stageE t s)
    tone := c.tone.observe t s
    rLevel := c.rLevel.sample t
    tLevel := c.tLevel.sample (c.stageU held t s)
    stats := c.stageStats held t s
    xNext := c.stageX t
    zNext := c.stageZ held t s }

/-- The frame event of an IDLE channel: x = t, z = s (R14). -/
def Channel.idleFrame (t s : Int) (c : Channel) : Channel :=
  { c with
    echo := c.echo.enter c.params t
    near := c.near.idleSample
    xNext := t
    zNext := s }

/-- A channel's frame event (R11): the frame no longer owes it, and owes the block end in a block-end frame. -/
def Channel.frame (held blockEndFrame : Bool) (t s : Int) (c : Channel) : Channel :=
  let c' := if c.active then c.activeFrame held t s else c.idleFrame t s
  { c' with frameDue := false, blockDue := blockEndFrame }

/-! ## The block end (R12) -/

/-- Divergence recovery takes place at this block end (R61, R62). -/
def Channel.recovers (c : Channel) : Bool := c.active && c.near.recovers c.near.classify

/-- What the tone detector does at this block end of a channel in CALL or TEST (R74 to R78). -/
def Channel.toneJudged (c : Channel) : Tone × Option Event := c.tone.judge c.params.toneEnable

/-- The tone event of this block end (R76, R78). -/
def Channel.toneEvent (c : Channel) : Option Event := if c.active then c.toneJudged.2 else none

/-- The event enters BYPASSED (R76). -/
def Event.entersBypass : Event → Bool
  | .toneBypassOn _ => true
  | _ => false

/-- The statistics after the block end of a channel in CALL or TEST (R57, R62, R76). -/
def Channel.closedStats (c : Channel) : Stats :=
  { c.stats with
    nearBlocks := countIf 65535 (decide (0 < c.near.nsc)) c.stats.nearBlocks
    goodBlocks := countIf 65535 (decide (c.near.classify = .good)) c.stats.goodBlocks
    divergences := countIf 255 (c.near.recovers c.near.classify) c.stats.divergences
    toneEntries := countIf 255 (c.toneJudged.2.any Event.entersBypass) c.stats.toneEntries }

/-- The block end of a channel in CALL or TEST, records apart: classification, tone judgement, both ALCs, and
the accumulators emptied (R55 to R62, R74 to R79, R93 to R100). -/
def Channel.closeActive (held : Bool) (c : Channel) : Channel :=
  { c with
    stats := c.closedStats
    echo := if c.near.recovers c.near.classify then c.echo.clearTaps else c.echo
    near := c.near.closeBlock
    tone := c.toneJudged.1.emptyBlock
    rLevel := c.rLevel.closeBlock c.params.rPath
      (alcAllowed c.params.rPath c.alcOn held c.tone.bypassMark)
    tLevel := c.tLevel.closeBlock c.params.tPath
      (alcAllowed c.params.tPath c.alcOn held c.tone.bypassMark && !c.near.nlpMark) }

/-- The block accumulators of the NCU, the TD and both level units emptied (R55, R79, R93). -/
def Channel.emptyBlock (c : Channel) : Channel :=
  { c with
    near := c.near.emptyBlock, tone := c.tone.emptyBlock, rLevel := c.rLevel.emptyBlock,
    tLevel := c.tLevel.emptyBlock }

/-- A channel's block end, records apart; the capture-pending mark is cleared (R189). -/
def Channel.closeBlock (held : Bool) (c : Channel) : Channel :=
  let c' := if c.active then c.closeActive held else c.emptyBlock
  { c' with capturePending := false, blockDue := false }

/-! ## Clears of a channel's signal state -/

/-- RESTART CHANNEL's clears (R122): coefficients, convergence, tone and level. -/
def Channel.clearSignal (c : Channel) : Channel :=
  { c with
    echo := c.echo.clearTaps, near := c.near.startClear, tone := c.tone.clear,
    rLevel := Level.clear c.params.rPath, tLevel := Level.clear c.params.tPath }

/-- The start clear (R111). -/
def Channel.startClear (c : Channel) : Channel := { c.clearSignal with stats := Stats.zero }

/-- What DEVICE RESTART does to a channel (R44, R70, R84, R106, R135). -/
def Channel.restart (c : Channel) : Channel :=
  { c with
    custody := .idle, forceBypass := false, freeze := false, capturePending := false,
    stats := Stats.zero, echo := c.echo.clearTaps, near := c.near.restart, tone := Tone.powerOn,
    rLevel := Level.clear c.params.rPath, tLevel := Level.clear c.params.tPath }

/-- What highway restoration does to a channel (R9). -/
def Channel.restore (c : Channel) : Channel :=
  { c.emptyBlock with echo := c.echo.zeroHistory, near := c.near.restore }

/-! ## The apply (R145 to R147) -/

/-- D or W differ between two parameter sets (R146). -/
def windowMoves (p q : ParamSet) : Bool := p.bulkDelay != q.bulkDelay || p.window != q.window

/-- An apply of profile number `n` with the fields `q` (R145 to R147). -/
def Channel.applyProfile (n : ProfileNo) (q : ParamSet) (c : Channel) : Channel :=
  let moves := windowMoves c.params q
  let clears := moves && c.active
  let echo := if clears then c.echo.clearTaps else c.echo
  { c with
    profile := n, params := q,
    echo := if moves then echo.measure q else echo,
    near := if clears then c.near.clearConvergence else c.near,
    rLevel := c.rLevel.apply q.rPath, tLevel := c.tLevel.apply q.tPath }

end Sys2Proof.Machine
end

