-- ==== Sys2Proof/Machine/RecordRing.lean ====
section
/-! DEFINITION. The record ring (chapter 9): slots in ring order, writing single-slot records and captures,
returning slots, and the report of R194. -/

namespace Sys2Proof.Machine

def PerLink.get {α : Type} (p : PerLink α) : Link → α
  | .cLink => p.c
  | .mLink => p.m

def PerLink.set {α : Type} (p : PerLink α) (l : Link) (a : α) : PerLink α :=
  match l with
  | .cLink => { p with c := a }
  | .mLink => { p with m := a }

def Slot.isDevice : Slot → Bool
  | .device => true
  | .owned _ _ => false

def Slot.ownedBy (l : Link) : Slot → Bool
  | .device => false
  | .owned o _ => o == l

/-- The slot `k` places from the write position in ring order (R179). -/
def Ring.slotFrom (r : Ring) (k : Nat) : SlotNo :=
  ⟨(r.writePos.val + k) % 64, Nat.mod_lt _ (by decide)⟩

/-- All slots in ring order from the write position. -/
def Ring.order (r : Ring) : List SlotNo := (List.range 64).map r.slotFrom

/-- How many slots a link owns (R194). -/
def Ring.ownedCount (l : Link) (r : Ring) : Nat := (r.slots.data.filter (Slot.ownedBy l)).length

/-- The oldest slot a link owns (R194). -/
def Ring.oldest (l : Link) (r : Ring) : Option SlotNo :=
  r.order.find? fun i => (r.slots.get i).ownedBy l

/-- How many consecutive device-owned slots there are from the write position (R190). -/
def Ring.freeRun (r : Ring) : Nat :=
  (r.order.takeWhile fun i => (r.slots.get i).isDevice).length

/-- A record for a destination is dropped (R183). -/
def Ring.drop (dest : Link) (r : Ring) : Ring :=
  { r with drops := r.drops.set dest (satInc 255 (r.drops.get dest)) }

/-- The counters and the write position after `k` slots were written for a destination (R179, R182, R183). -/
def Ring.advance (dest : Link) (k : Nat) (r : Ring) : Ring :=
  { r with
    writePos := r.slotFrom k
    nextSeq := r.nextSeq.set dest ((r.nextSeq.get dest + 1) % 65536)
    drops := r.drops.set dest 0 }

/-- A single-slot record as it is written (R181, R186). -/
def Ring.singleRecord (stamp : Stamp) (dest : Link) (ch : Option ChannelNo) (p : Payload) (r : Ring) :
    Record :=
  { dest := dest, seq := r.nextSeq.get dest, channel := ch, stamp := stamp, first := true,
    last := true, truncated := false, dropped := r.drops.get dest, payload := p }

/-- A single-slot record handed to the ring: written at the write position, or dropped (R186). -/
def Ring.put (stamp : Stamp) (dest : Link) (ch : Option ChannelNo) (p : Payload) (r : Ring) : Ring :=
  if (r.slots.get r.writePos).isDevice then
    Ring.advance dest 1
      { r with slots := r.slots.set r.writePos (.owned dest (r.singleRecord stamp dest ch p)) }
  else r.drop dest

/-- Slot `j` of a capture of `n` slots of which `k` are written (R190). -/
def Ring.captureRecord (stamp : Stamp) (ch : ChannelNo) (c : Channel) (n k j : Nat) (r : Ring) :
    Record :=
  { dest := .mLink, seq := r.nextSeq.m, channel := some ch, stamp := stamp
    first := decide (j = 0)
    last := decide (j + 1 = k)
    truncated := decide (j + 1 = k) && decide (k < n)
    dropped := if j = 0 then r.drops.m else 0
    payload := .capture
      { profile := c.profile, bulkDelay := c.params.bulkDelay, window := c.params.window,
        firstTap := 64 * j, taps := (c.echo.taps.data.drop (64 * j)).take 64 } }

/-- The first `j` of a capture's slots written (R190). -/
def Ring.captureSlots (stamp : Stamp) (ch : ChannelNo) (c : Channel) (n k : Nat) (r : Ring) :
    Nat → Table Slot 64
  | 0 => r.slots
  | j + 1 =>
    (r.captureSlots stamp ch c n k j).set (r.slotFrom j)
      (.owned .mLink (r.captureRecord stamp ch c n k j))

/-- A capture handed to the ring: whole, truncated or dropped (R190). -/
def Ring.putCapture (stamp : Stamp) (ch : ChannelNo) (c : Channel) (r : Ring) : Ring :=
  let n := c.params.window / 64
  let k := min n r.freeRun
  if k = 0 then r.drop .mLink
  else Ring.advance .mLink k { r with slots := r.captureSlots stamp ch c n k k }

/-- A slot given back to DEVICE; its record is discarded (R193). -/
def Ring.free (i : SlotNo) (r : Ring) : Ring := { r with slots := r.slots.set i .device }

end Sys2Proof.Machine
end

