-- ==== Sys2Proof/Machine/Ops.lean ====
section
/-! DEFINITION. The operations over the whole state that the commands and events share: channels, link
controllers and conditions, hand-overs to the ring, applies and group switches, the clock's advance and the
schedule, the frame's beginning, and taking a command with its checks and its response. -/

namespace Sys2Proof.Machine

/-! ## Parts of the state -/

def State.chan (s : State) (ch : ChannelNo) : Channel := s.channels.get ch

def State.setChan (s : State) (ch : ChannelNo) (c : Channel) : State :=
  { s with channels := s.channels.set ch c }

def State.mapChans (s : State) (f : Channel → Channel) : State :=
  { s with channels := s.channels.map f }

def State.link (s : State) (l : Link) : LinkCtl := s.links.get l

def State.setLink (s : State) (l : Link) (k : LinkCtl) : State :=
  { s with links := s.links.set l k }

/-- A profile's fields. -/
def State.fieldsOf (s : State) (p : ProfileNo) : ParamSet := (s.profiles.get p).fields

/-- A profile is HELD (R140: read by number). -/
def State.heldOf (s : State) (p : ProfileNo) : Bool := (s.profiles.get p).held

def State.setGroup (s : State) (g : GroupNo) (v : Group) : State :=
  { s with groups := s.groups.set g v }

/-! ## Attention (R211, R213) -/

/-- The conditions of a link change, and its line follows. -/
def State.modifyConds (s : State) (l : Link) (f : Conditions → Conditions) : State :=
  s.setLink l (LinkCtl.withConds l (s.link l) (f (s.link l).conds))

/-- A link error on a link's receiver (R203). -/
def State.linkError (s : State) (l : Link) (k : LinkErrorKind) : State :=
  s.modifyConds l (Conditions.raiseLinkError k)

/-! ## The ring (R186, R190, R194) -/

/-- The report of R194 to one link controller; its line follows (R218). -/
def reportSlots (r : Ring) (l : Link) (k : LinkCtl) : LinkCtl :=
  LinkCtl.withConds l k { k.conds with owned := r.ownedCount l, oldest := r.oldest l }

/-- A change of the ring, reported to both link controllers (R194). -/
def State.withRing (s : State) (r : Ring) : State :=
  { s with ring := r, links := ⟨reportSlots r .cLink s.links.c, reportSlots r .mLink s.links.m⟩ }

/-- The timestamp of a record closed now (R170). -/
def State.stamp (s : State) : Stamp := { time := s.clock.time, fis := s.clock.fis }

/-- A single-slot record handed to the ring (R186). -/
def State.hand (s : State) (dest : Link) (ch : Option ChannelNo) (p : Payload) : State :=
  s.withRing (s.ring.put s.stamp dest ch p)

/-- An event record, for the M-link (R185). -/
def State.handEvent (s : State) (ch : Option ChannelNo) (e : Event) : State :=
  s.hand .mLink ch (.event e)

/-- An event record if there is one. -/
def State.handEvent? (s : State) (ch : Option ChannelNo) (e : Option Event) : State :=
  match e with
  | some e => s.handEvent ch e
  | none => s

/-- The summary of a call or test that ends (R132, R184). -/
def Channel.summary (c : Channel) (why : EndReason) : Summary :=
  { ref := match c.custody with
      | .call r _ _ => some r
      | _ => none
    reason := why, profile := c.profile, conv := c.near.conv, rGain := c.rLevel.gain,
    tGain := c.tLevel.gain, stats := c.stats,
    error := decide (c.stats.divergences ≠ 0) || decide (c.stats.saturations ≠ 0) ||
      decide (c.stats.clipsR ≠ 0) || decide (c.stats.clipsT ≠ 0) }

/-- A summary handed to the ring (R132). -/
def State.handSummary (s : State) (dest : Link) (ch : ChannelNo) (why : EndReason) : State :=
  s.hand dest (some ch) (.summary ((s.chan ch).summary why))

/-! ## Applies and switches (R145, R151) -/

/-- An apply of profile `n` to one channel, as the profile stands (R145). -/
def State.applyTo (s : State) (n : ProfileNo) (ch : ChannelNo) : State :=
  s.setChan ch (Channel.applyProfile n (s.fieldsOf n) (s.chan ch))

/-- An apply of profile `n` to every channel that satisfies `which` (R144, R151). -/
def State.applyWhere (s : State) (n : ProfileNo) (which : Channel → Bool) : State :=
  s.mapChans fun c => if which c then Channel.applyProfile n (s.fieldsOf n) c else c

/-- The applied profile of a group by its stack and scheduled profile: the top, or the scheduled (R149). -/
def appliedOf (stack : List ProfileNo) (scheduled : ProfileNo) : ProfileNo :=
  stack.getLastD scheduled

/-- A group's stack and scheduled profile as given, its applied profile recomputed, and the new applied profile
applied to its channels when it changed (R149, R151); the record apart. -/
def State.regroup (s : State) (g : GroupNo) (stack : List ProfileNo) (scheduled : ProfileNo) : State :=
  let old := s.groups.get g
  let now := appliedOf stack scheduled
  let s1 := s.setGroup g { old with stack := stack, scheduled := scheduled, applied := now }
  if now = old.applied then s1 else s1.applyWhere now fun c => c.group == g

/-- The PROFILE_SWITCHED record of a group whose applied profile went from `a` to `b`; none if it did not
change (R151). -/
def switchEvent (g : GroupNo) (a b : ProfileNo) (cause : SwitchCause) : Option Event :=
  if a = b then none else some (.profileSwitched g a b cause)

/-- A push or pop: the group's stack becomes `stack` (R152, R153). -/
def State.restack (s : State) (g : GroupNo) (stack : List ProfileNo) : State :=
  let old := s.groups.get g
  (s.regroup g stack old.scheduled).handEvent? none
    (switchEvent g old.applied (appliedOf stack old.scheduled) .override)

/-! ## Clock and schedule (chapter 8) -/

/-- The date one day on, and the weekday stepped (R163, R164). -/
def Clock.nextDay (c : Clock) : Clock :=
  let w := if 6 ≤ c.weekday then 0 else c.weekday + 1
  if c.day + 1 ≤ monthLength c.year c.month then { c with day := c.day + 1, weekday := w }
  else if c.month + 1 ≤ 12 then { c with day := 1, month := c.month + 1, weekday := w }
  else
    { c with
      day := 1, month := 1, year := if 99 ≤ c.year then 0 else c.year + 1, weekday := w }

/-- The advance at a second tick, with carries (R163); the frame in second wraps to 0 in the same change. -/
def Clock.tick (c : Clock) : Clock :=
  if c.time.second + 1 ≤ 59 then
    { c with fis := 0, time := { c.time with second := c.time.second + 1 } }
  else if c.time.minute + 1 ≤ 59 then
    { c with fis := 0, time := { c.time with minute := c.time.minute + 1, second := 0 } }
  else if c.time.hour + 1 ≤ 23 then
    { c with fis := 0, time := { hour := c.time.hour + 1, minute := 0, second := 0 } }
  else Clock.nextDay { c with fis := 0, time := { hour := 0, minute := 0, second := 0 } }

/-- Seconds since midnight (R171). -/
def TimeOfDay.seconds (t : TimeOfDay) : Nat := t.hour * 3600 + t.minute * 60 + t.second

/-- An entry matches at a time of day on a weekday (R174). -/
def Entry.matchesAt (e : Entry) (t : TimeOfDay) (w : Nat) : Bool :=
  e.inUse &&
    if e.start.seconds ≤ e.stop.seconds then
      decide (e.start.seconds ≤ t.seconds) && decide (t.seconds ≤ e.stop.seconds) &&
        e.mask.getLsbD w
    else
      (decide (e.start.seconds ≤ t.seconds) && e.mask.getLsbD w) ||
        (decide (t.seconds ≤ e.stop.seconds) && e.mask.getLsbD ((w + 6) % 7))

/-- The profile the schedule selects for a group: the lowest-numbered matching entry's, else the default; an
UNSET clock consults no entry (R175). -/
def State.selects (s : State) (g : GroupNo) : ProfileNo :=
  if s.clock.state = .unset then (s.groups.get g).default
  else
    match s.schedule.data.find? fun e =>
        e.group == g && e.matchesAt s.clock.time s.clock.weekday with
    | some e => e.profile
    | none => (s.groups.get g).default

/-- One group's evaluation at a tick: its scheduled profile set, and the switch if its applied profile changed
(R154); the record apart. -/
def State.evaluateGroup (s : State) (g : GroupNo) : State :=
  s.regroup g (s.groups.get g).stack (s.selects g)

/-- The eight groups. -/
def allGroups : List GroupNo := [0, 1, 2, 3, 4, 5, 6, 7]

/-- Every group's evaluation (R175). The changes of different groups touch different state (R154). -/
def State.evaluate (s : State) : State := allGroups.foldl State.evaluateGroup s

/-- The switch records of a tick, from the groups before and after it (R151). -/
def tickEvents (before after : State) : List (GroupNo × Event) :=
  allGroups.filterMap fun g =>
    (switchEvent g (before.groups.get g).applied (after.groups.get g).applied .schedule).map fun e =>
      (g, e)

/-- Insertion into a list ordered by rank. -/
def insertByRank (rank : GroupNo → Nat) (a : GroupNo × Event) : List (GroupNo × Event) → List (GroupNo × Event)
  | [] => [a]
  | b :: bs => if rank a.1 ≤ rank b.1 then a :: b :: bs else b :: insertByRank rank a bs

/-- The order in which the switch records of one tick are handed: any order (R187), chosen by the free rank
`Config.switchRank`. A single record leaves no choice. -/
def freeOrder (draw : Nat) (es : List (GroupNo × Event)) : List (GroupNo × Event) :=
  match es with
  | [] => []
  | [e] => [e]
  | es => es.foldr (insertByRank (Config.switchRank draw)) []

/-- Event records without a channel handed one after the other (R187). -/
def State.handAll (s : State) (es : List (GroupNo × Event)) : State :=
  es.foldl (fun s e => s.handEvent none e.2) s

/-- DURATION counted on a channel in CALL or TEST (R130). -/
def Channel.countSecond (c : Channel) : Channel :=
  if c.active then { c with stats := { c.stats with duration := satInc 65535 c.stats.duration } } else c

/-- The work of a second tick (R13): the clock advances, DURATION counts, the schedule is evaluated, and the
switches hand their records. -/
def State.secondTick (s : State) : State :=
  let ticked : State :=
    { s.mapChans Channel.countSecond with clock := s.clock.tick, tickDue := false }
  let evaluated := ticked.evaluate
  { evaluated.handAll (freeOrder s.freeDraws (tickEvents ticked evaluated)) with
    freeDraws := s.freeDraws + 1 }

/-! ## Frames and lock (chapter 1) -/

/-- A new frame for one channel: the samples formed in the frame before are driven now (R2), and the frame owes
its frame event (R11). -/
def Channel.beginFrame (c : Channel) : Channel :=
  { c with xOut := c.xNext, zOut := c.zNext, xNext := 0, zNext := 0, frameDue := true, blockDue := false }

/-- The frame that opens LOCKED drives 0 in every timeslot (R2). -/
def Channel.silence (c : Channel) : Channel := { c with xOut := 0, zOut := 0, xNext := 0, zNext := 0 }

/-- No frame, no events owed, and both outputs 0 (R3, R8). -/
def Channel.loseFrame (c : Channel) : Channel := { c.silence with frameDue := false, blockDue := false }

/-- The frame-in-second count advances at a LOCKED frame; at 7999 the frame raises a second tick, which makes
the wrap (R13, R163). DEDUCED, unsafe: assumption 6. -/
def State.countFrame (s : State) : State :=
  if 7999 ≤ s.clock.fis then { s with tickDue := true }
  else { s with clock := { s.clock with fis := s.clock.fis + 1 } }

/-- A frame begins with the given frame counter (R10, R11). -/
def State.beginFrame (s : State) (frame : Nat) : State :=
  (({ s with highway := { s.highway with frame := frame, bclkStop := none } }).mapChans
    Channel.beginFrame).countFrame

/-- The frame after the current one (R10). -/
def State.nextFrame (s : State) : State :=
  s.beginFrame (if 7999 ≤ s.highway.frame then 0 else s.highway.frame + 1)

/-- The current frame is a block-end frame (R10). -/
def Highway.blockEndFrame (h : Highway) : Bool := decide (h.frame % 40 = 39)

/-- LOCKED is entered at the pulse that ends the good-pulse run, and the first frame opens (R4, R9). -/
def State.enterLocked (s : State) (p : Pulse) : State :=
  (({ s with
      highway :=
        { s.highway with
          lock := .locked, goodRun := 8, badRun := 0, lastPulse := some p,
          expected := some (p.bit + 512), misplaced := false } }).mapChans Channel.silence).beginFrame 0

/-- Restoration, before the first frame's events (R9). -/
def State.restore (s : State) : State :=
  (s.mapChans Channel.restore).handEvent none .highwayRestored

/-- A SET clock becomes STALE at a loss of lock (R7, R162). -/
def ClockState.atLoss : ClockState → ClockState
  | .unset => .unset
  | .set => .stale
  | .stale => .stale

/-- LOST is entered from LOCKED (R7, R8). A pulse on the very position at which LOST is entered is not counted in the
run, which begins at 0 after it: DESIGN CHOICE, unsafe, assumption 19. -/
def State.enterLost (s : State) : State :=
  let lostHw : State :=
    { s.mapChans Channel.loseFrame with
      highway :=
        { s.highway with
          lock := .lost, goodRun := 0, badRun := 3, expected := none, misplaced := false,
          bclkStop := none }
      clock := { s.clock with state := s.clock.state.atLoss }
      tickDue := false }
  let faulted := (lostHw.modifyConds .cLink Conditions.raiseFault).modifyConds .mLink fun c =>
    if s.clock.state = .set then c.raiseFault.raiseClockAlert else c.raiseFault
  faulted.handEvent none .highwayLost

/-! ## Taking a command (R205 to R208) -/

/-- What the owning block answers: the state it leaves, the result, and the data (R206, R207). -/
structure Reply where
  state : State
  result : Result
  data : List Byte

/-- A refusal: nothing changes, and the response carries the result alone (R208). -/
def State.refuse (s : State) (r : Result) : Reply := { state := s, result := r, data := [] }

/-- A command carried out, without data. -/
def State.answer (s : State) : Reply := { state := s, result := .ok, data := [] }

/-- A read answered OK with data (R207). -/
def State.answerData (s : State) (data : List Byte) : Reply := { state := s, result := .ok, data := data }

/-- The response begins, and the link is busy until its last byte has been sent (R205, R207). -/
def Reply.send (r : Reply) (l : Link) (code tag : Byte) : State :=
  r.state.setLink l
    { r.state.link l with tx := some (responseFrame code tag r.result r.data), busy := true }

/-- A command arrives in a frame that has passed its check. While RESET_N is asserted no command is taken
(R199); on a busy link it is an OVERRUN (R205); otherwise it is taken: permission and length are checked, and the
owning block acts (R208). DEDUCED, safe: a command row stands for the completion of the frame that carries it,
assumption 2. -/
def takeCommand (op : Opcode) (l : Link) (tag : Byte) (ps : List Byte) (body : State → Reply)
    (s : State) : State :=
  if s.resetAsserted then s
  else if (s.link l).busy then s.linkError l .overrun
  else if op.admitted l = false then (s.refuse .notPermitted).send l op.code tag
  else if ps.length ≠ op.paramCount l then (s.refuse .badLength).send l op.code tag
  else (body s).send l op.code tag

/-- The channel check of R108: a channel outside 0..31 is answered BAD_CHANNEL. -/
def withChannel (b : Byte) (s : State) (k : ChannelNo → Reply) : Reply :=
  match parseFin 32 b with
  | some ch => k ch
  | none => s.refuse .badChannel

/-- A profile, group, entry or slot number, answered BAD_VALUE outside its range (R138, R172, R192). -/
def withNumber (n : Nat) (b : Byte) (s : State) (k : Fin n → Reply) : Reply :=
  match parseFin n b with
  | some i => k i
  | none => s.refuse .badValue

/-! ## Leaving a call (R112, R117) -/

/-- A channel leaves CALL: to IDLE, or to TEST with the start clear when a block is pending (R112, R113). -/
def Channel.leaveCall (c : Channel) : Channel :=
  if c.blockPending then { c.startClear with custody := .test } else { c with custody := .idle }

/-- The end of a call: its summary first, then the channel leaves CALL, and BLOCK_DONE gains it when it enters
TEST (R112, R117). -/
def State.endCall (s : State) (ch : ChannelNo) (why : EndReason) : State :=
  let c := s.chan ch
  let left := (s.handSummary .cLink ch why).setChan ch c.leaveCall
  if c.blockPending then left.modifyConds .mLink (Conditions.joinBlockDone ch) else left

/-! ## Restart (R201) -/

/-- A link controller at the restart instant (R201): the C-link's response, if one is in transit, is still sent;
the M-link's has just been sent. -/
def LinkCtl.restart (lock : Lock) (l : Link) (k : LinkCtl) : LinkCtl :=
  LinkCtl.refresh l
    { k with
      rx := .hunt, base := 0, mask := 6, conds := { Conditions.quiet with restarted := some lock } }

/-- The response in transit ends: the transmitter is idle and the busy mark clear (R205). -/
def LinkCtl.endResponse (k : LinkCtl) : LinkCtl := { k with tx := none, busy := false }

/-- DEVICE RESTART takes place (R201), at the end of its response on the M-link. -/
def State.restart (s : State) : State :=
  { s.mapChans Channel.restart with
    ring := Ring.powerOn
    links :=
      ⟨LinkCtl.restart s.highway.lock .cLink s.links.c,
        LinkCtl.restart s.highway.lock .mLink s.links.m.endResponse⟩
    restartPending := false }

end Sys2Proof.Machine
end

