-- ==== Sys2Proof/Machine/HighwayEvents.lean ====
section
/-! DEFINITION. The events of the highways (chapter 1): FSYNC pulses and their time-out, BCLK stopping, the
expected position, the frame event and the block end of a channel, and the second tick. -/

namespace Sys2Proof.Machine

/-! ## FSYNC in ACQUIRING and LOST (R4, R8, R9) -/

/-- The pulse is correctly spaced: 512 bit periods after the previous one, and no more than 130 µs by the
crystal (R4). -/
def Highway.spaced (h : Highway) (p : Pulse) : Bool :=
  match h.lastPulse with
  | some q => decide (p.bit = q.bit + 512) && decide (p.ns ≤ q.ns + 130000)
  | none => false

/-- The good-pulse run after a pulse (R4). -/
def Highway.runAfter (h : Highway) (p : Pulse) : Nat :=
  if h.goodRun = 0 then 1 else if h.spaced p then h.goodRun + 1 else 1

/-- A pulse that leaves the lock state as it is, in ACQUIRING or LOST (R4). -/
def State.countPulse (s : State) (p : Pulse) : State :=
  { s with highway := { s.highway with goodRun := s.highway.runAfter p, lastPulse := some p } }

/-- A pulse in LOCKED: off the expected position it is a misplaced one; on it, it is judged there (R5). DEDUCED,
unsafe: assumption 7. -/
def State.lockedPulse (s : State) (p : Pulse) : State :=
  { s with
    highway :=
      { s.highway with
        lastPulse := some p
        misplaced := s.highway.misplaced || decide (s.highway.expected ≠ some p.bit) } }

/-- FSYNC_PULSE (R4, R5, R8, R9). -/
def execFsyncPulse (bit ns : Nat) (s : State) : Host.Outcome State Fault Refusal :=
  let p : Pulse := { bit := bit, ns := ns }
  .next
    (if s.resetAsserted then s
    else match s.highway.lock with
      | .locked => s.lockedPulse p
      | .acquiring => if 8 ≤ s.highway.runAfter p then s.enterLocked p else s.countPulse p
      | .lost => if 8 ≤ s.highway.runAfter p then s.restore.enterLocked p else s.countPulse p)

/-- PULSE_TIMEOUT (R4, R8). -/
def execPulseTimeout (s : State) : Host.Outcome State Fault Refusal :=
  .next
    (if s.resetAsserted || s.highway.lock == .locked then s
    else { s with highway := { s.highway with goodRun := 0 } })

/-! ## LOCKED (R5, R6, R7) -/

/-- BCLK_STOPPED (R5, R6): from this bit period to the end of the frame the crystal places the bit periods.
DEDUCED, unsafe: assumption 8. -/
def execBclkStopped (fromBit : Nat) (s : State) : Host.Outcome State Fault Refusal :=
  .next
    (if s.resetAsserted || s.highway.lock != .locked then s
    else
      { s with
        highway := { s.highway with bclkStop := some (s.highway.bclkStop.getD fromBit) } })

/-- A new frame begins at the expected position with the given bad run (R5). -/
def State.advanceFrame (s : State) (badRun : Nat) : State :=
  ({ s with
      highway :=
        { s.highway with
          badRun := badRun, expected := s.highway.expected.map (· + 512), misplaced := false } }).nextFrame

/-- EXPECTED_POSITION (R5, R6, R7): `fsync` is FSYNC sampled there. -/
def execExpectedPosition (fsync : Bool) (s : State) : Host.Outcome State Fault Refusal :=
  .next
    (if s.resetAsserted || s.highway.lock != .locked then s
    else if fsync && !s.highway.misplaced then s.advanceFrame 0
    else if s.highway.badRun + 1 < 3 then s.advanceFrame (s.highway.badRun + 1)
    else s.enterLost)

/-! ## Frame event, block end, second tick (R11, R12, R13) -/

/-- The sample taken from timeslot `n`: a bit period that the crystal places is taken as 0 (R1, R6). -/
def takenBits (stop : Option Nat) (n : Nat) (b : BitVec 16) : BitVec 16 :=
  match stop with
  | none => b
  | some k => b &&& (0xFFFF#16 <<< (16 - min 16 (k - 16 * n)))

/-- FRAME_EVENT (R2, R11): taken once in each LOCKED frame. DEDUCED, unsafe: assumption 4. -/
def execFrameEvent (ch : ChannelNo) (t s' : BitVec 16) (s : State) :
    Host.Outcome State Fault Refusal :=
  let c := s.chan ch
  let stop := s.highway.bclkStop
  .next
    (if s.resetAsserted || s.highway.lock != .locked || !c.frameDue then s
    else
      s.setChan ch
        (Channel.frame (s.heldOf c.profile) s.highway.blockEndFrame (takenBits stop ch.val t).toInt
          (takenBits stop ch.val s').toInt c))

/-- The block end of a channel: capture, then the units' work, then DIVERGED, then the tone record (R189). -/
def State.blockEnd (s : State) (ch : ChannelNo) : State :=
  let c := s.chan ch
  let captured := if c.capturePending then s.withRing (s.ring.putCapture s.stamp ch c) else s
  let closed := captured.setChan ch (Channel.closeBlock (s.heldOf c.profile) c)
  let diverged :=
    if c.recovers then closed.handEvent (some ch) (.diverged (satInc 255 c.stats.divergences))
    else closed
  diverged.handEvent? (some ch) c.toneEvent

/-- BLOCK_END (R12): follows the channel's frame event in a block-end frame (assumption 4). -/
def execBlockEnd (ch : ChannelNo) (s : State) : Host.Outcome State Fault Refusal :=
  .next
    (if s.resetAsserted || s.highway.lock != .locked || !(s.chan ch).blockDue then s
    else s.blockEnd ch)

/-- SECOND_TICK (R13): taken when the frame has raised one (assumption 4). -/
def execSecondTick (s : State) : Host.Outcome State Fault Refusal :=
  .next
    (if s.resetAsserted || s.highway.lock != .locked || !s.tickDue then s else s.secondTick)

end Sys2Proof.Machine
end

