-- ==== Sys2Proof/Machine/Custody.lean ====
section
/-! DEFINITION. The custody commands (6.2, 6.3): SEIZE, CLEAR, MODIFY CALL, BLOCK, UNBLOCK, FORCE RELEASE. -/

namespace Sys2Proof.Machine

/-- Another channel in CALL holds the reference (R109, R110). -/
def State.refInUse (s : State) (ref : Nat) : Bool := s.channels.data.any fun c => c.holdsRef ref

/-- SEIZE's owning block (R110). -/
def seize (ps : List Byte) (s : State) : Reply :=
  match ps with
  | [b, r1, r0, o] => withChannel b s fun ch =>
    match parseOptions o with
    | none => s.refuse .badValue
    | some opts =>
      if u16 r1 r0 = 0 then s.refuse .badValue
      else match (s.chan ch).custody with
        | .call _ _ _ => s.refuse .inCall
        | .test => s.refuse .inTest
        | .idle =>
          if s.refInUse (u16 r1 r0) then s.refuse .duplicateCall
          else
            (s.setChan ch
              { (s.chan ch).startClear with custody := .call (u16 r1 r0) opts false }).answer
  | _ => s.refuse .badLength

/-- SEIZE (R110). -/
def execSeize (l : Link) (tag : Byte) (ps : List Byte) (s : State) :
    Host.Outcome State Fault Refusal :=
  .next (takeCommand .seize l tag ps (seize ps) s)

/-- The check of a command that names a call by its reference: WRONG_STATE out of CALL, CALL_MISMATCH for another
reference (R112, R114, R121). -/
def withCall (ch : ChannelNo) (ref : Nat) (s : State) (k : CallOptions → Bool → Reply) : Reply :=
  match (s.chan ch).custody with
  | .call r o b => if r = ref then k o b else s.refuse .callMismatch
  | .idle => s.refuse .wrongState
  | .test => s.refuse .wrongState

/-- CLEAR's owning block (R112). -/
def clearCall (ps : List Byte) (s : State) : Reply :=
  match ps with
  | [b, r1, r0] => withChannel b s fun ch =>
    if u16 r1 r0 = 0 then s.refuse .badValue
    else withCall ch (u16 r1 r0) s fun _ _ => (s.endCall ch .cleared).answer
  | _ => s.refuse .badLength

/-- CLEAR (R112). -/
def execClear (l : Link) (tag : Byte) (ps : List Byte) (s : State) :
    Host.Outcome State Fault Refusal :=
  .next (takeCommand .clear l tag ps (clearCall ps) s)

/-- MODIFY CALL's owning block (R114). -/
def modifyCall (ps : List Byte) (s : State) : Reply :=
  match ps with
  | [b, r1, r0, o] => withChannel b s fun ch =>
    match parseOptions o with
    | none => s.refuse .badValue
    | some opts =>
      if u16 r1 r0 = 0 then s.refuse .badValue
      else withCall ch (u16 r1 r0) s fun _ mark =>
        (s.setChan ch { s.chan ch with custody := .call (u16 r1 r0) opts mark }).answer
  | _ => s.refuse .badLength

/-- MODIFY CALL (R114). -/
def execModifyCall (l : Link) (tag : Byte) (ps : List Byte) (s : State) :
    Host.Outcome State Fault Refusal :=
  .next (takeCommand .modifyCall l tag ps (modifyCall ps) s)

/-- BLOCK's owning block (R115). -/
def blockChannel (ps : List Byte) (s : State) : Reply :=
  match ps with
  | [b] => withChannel b s fun ch =>
    match (s.chan ch).custody with
    | .idle => (s.setChan ch { (s.chan ch).startClear with custody := .test }).answer
    | .call r o false =>
      { state := s.setChan ch { s.chan ch with custody := .call r o true }
        result := .accepted, data := [] }
    | .call _ _ true => s.refuse .wrongState
    | .test => s.refuse .wrongState
  | _ => s.refuse .badLength

/-- BLOCK (R115). -/
def execBlock (l : Link) (tag : Byte) (ps : List Byte) (s : State) :
    Host.Outcome State Fault Refusal :=
  .next (takeCommand .block l tag ps (blockChannel ps) s)

/-- UNBLOCK's owning block (R116). -/
def unblockChannel (ps : List Byte) (s : State) : Reply :=
  match ps with
  | [b] => withChannel b s fun ch =>
    match (s.chan ch).custody with
    | .idle => s.refuse .wrongState
    | .call r o true => (s.setChan ch { s.chan ch with custody := .call r o false }).answer
    | .call _ _ false => s.refuse .wrongState
    | .test =>
      ((s.handSummary .mLink ch .testEnded).setChan ch { s.chan ch with custody := .idle }).answer
  | _ => s.refuse .badLength

/-- UNBLOCK (R116). -/
def execUnblock (l : Link) (tag : Byte) (ps : List Byte) (s : State) :
    Host.Outcome State Fault Refusal :=
  .next (takeCommand .unblock l tag ps (unblockChannel ps) s)

/-- FORCE RELEASE's owning block (R117). -/
def forceRelease (ps : List Byte) (s : State) : Reply :=
  match ps with
  | [b] => withChannel b s fun ch =>
    match (s.chan ch).custody with
    | .call _ _ _ =>
      ((s.endCall ch .forced).modifyConds .cLink (Conditions.joinNotice ch)).answer
    | .idle => s.refuse .wrongState
    | .test => s.refuse .wrongState
  | _ => s.refuse .badLength

/-- FORCE RELEASE (R117). -/
def execForceRelease (l : Link) (tag : Byte) (ps : List Byte) (s : State) :
    Host.Outcome State Fault Refusal :=
  .next (takeCommand .forceRelease l tag ps (forceRelease ps) s)

end Sys2Proof.Machine
end

