-- ==== Sys2Proof/Machine/ChannelCommands.lean ====
section
/-! DEFINITION. RESTART CHANNEL, READ CHANNEL, ASSIGN CHANNEL and REQUEST CAPTURE (6.5, 9.5). -/

namespace Sys2Proof.Machine

/-- A channel's signal state restarted (R122). -/
def State.restartChannel (s : State) (ch : ChannelNo) : Reply :=
  (s.setChan ch (s.chan ch).clearSignal).answer

/-- RESTART CHANNEL's owning block, in the form of each link (R121). -/
def restartChannel (l : Link) (ps : List Byte) (s : State) : Reply :=
  match l, ps with
  | .cLink, [b, r1, r0] => withChannel b s fun ch =>
    if u16 r1 r0 = 0 then s.refuse .badValue
    else withCall ch (u16 r1 r0) s fun _ _ => s.restartChannel ch
  | .mLink, [b] => withChannel b s fun ch =>
    if (s.chan ch).active then s.restartChannel ch else s.refuse .wrongState
  | _, _ => s.refuse .badLength

/-- RESTART CHANNEL (R121, R122). -/
def execRestartChannel (l : Link) (tag : Byte) (ps : List Byte) (s : State) :
    Host.Outcome State Fault Refusal :=
  .next (takeCommand .restartChannel l tag ps (restartChannel l ps) s)

/-- READ CHANNEL's owning block (R124). -/
def readChannel (ps : List Byte) (s : State) : Reply :=
  match ps with
  | [b] => withChannel b s fun ch => s.answerData (s.chan ch).bytes
  | _ => s.refuse .badLength

/-- READ CHANNEL (R124). -/
def execReadChannel (l : Link) (tag : Byte) (ps : List Byte) (s : State) :
    Host.Outcome State Fault Refusal :=
  .next (takeCommand .readChannel l tag ps (readChannel ps) s)

/-- A channel joins a group and applies its applied profile (R123). -/
def State.assign (s : State) (ch : ChannelNo) (g : GroupNo) : State :=
  (s.setChan ch { s.chan ch with group := g }).applyTo (s.groups.get g).applied ch

/-- ASSIGN CHANNEL's owning block (R123). -/
def assignChannel (ps : List Byte) (s : State) : Reply :=
  match ps with
  | [b, gb] => withChannel b s fun ch => withNumber 8 gb s fun g =>
    match (s.chan ch).custody with
    | .call _ _ _ => s.refuse .inCall
    | .idle => (s.assign ch g).answer
    | .test => (s.assign ch g).answer
  | _ => s.refuse .badLength

/-- ASSIGN CHANNEL (R123). -/
def execAssignChannel (l : Link) (tag : Byte) (ps : List Byte) (s : State) :
    Host.Outcome State Fault Refusal :=
  .next (takeCommand .assignChannel l tag ps (assignChannel ps) s)

/-- REQUEST CAPTURE's owning block (R188). -/
def requestCapture (ps : List Byte) (s : State) : Reply :=
  match ps with
  | [b] => withChannel b s fun ch =>
    if (s.chan ch).active && !(s.chan ch).capturePending then
      { state := s.setChan ch { s.chan ch with capturePending := true }
        result := .accepted, data := [] }
    else s.refuse .wrongState
  | _ => s.refuse .badLength

/-- REQUEST CAPTURE (R188). -/
def execRequestCapture (l : Link) (tag : Byte) (ps : List Byte) (s : State) :
    Host.Outcome State Fault Refusal :=
  .next (takeCommand .requestCapture l tag ps (requestCapture ps) s)

end Sys2Proof.Machine
end

