-- ==== Sys2Proof/Machine/ClockCommands.lean ====
section
/-! DEFINITION. TIME SET, TIME READ and the schedule entry commands (8.3, 8.4). -/

namespace Sys2Proof.Machine

/-- TIME SET carried out: the clock loaded, no tick owed, and CLOCK_ALERT cleared (R167, R217). -/
def State.loadClock (s : State) (c : Clock) : State :=
  State.modifyConds { s with clock := c, tickDue := false } .mLink Conditions.clearClockAlert

/-- TIME SET's owning block (R166, R167). -/
def timeSet (ps : List Byte) (s : State) : Reply :=
  match ps with
  | [y, mo, d, h, mi, sec, w] =>
    match parseTime y mo d h mi sec w with
    | none => s.refuse .badTime
    | some c => (s.loadClock c).answer
  | _ => s.refuse .badLength

/-- TIME SET (R166, R167). -/
def execTimeSet (l : Link) (tag : Byte) (ps : List Byte) (s : State) :
    Host.Outcome State Fault Refusal :=
  .next (takeCommand .timeSet l tag ps (timeSet ps) s)

/-- TIME READ's owning block (R168). -/
def timeRead (ps : List Byte) (s : State) : Reply :=
  match ps with
  | [] => s.answerData s.clock.bytes
  | _ => s.refuse .badLength

/-- TIME READ (R168). -/
def execTimeRead (l : Link) (tag : Byte) (ps : List Byte) (s : State) :
    Host.Outcome State Fault Refusal :=
  .next (takeCommand .timeRead l tag ps (timeRead ps) s)

def State.setEntry (s : State) (i : EntryNo) (e : Entry) : State :=
  { s with schedule := s.schedule.set i e }

/-- WRITE ENTRY's owning block (R172). -/
def writeEntry (ps : List Byte) (s : State) : Reply :=
  match ps with
  | [ib, g, sh, sm, ss, eh, em, es, mask, p] => withNumber 24 ib s fun i =>
    match parseEntry g sh sm ss eh em es mask p with
    | none => s.refuse .badValue
    | some e => (s.setEntry i e).answer
  | _ => s.refuse .badLength

/-- WRITE ENTRY (R172). -/
def execWriteEntry (l : Link) (tag : Byte) (ps : List Byte) (s : State) :
    Host.Outcome State Fault Refusal :=
  .next (takeCommand .writeEntry l tag ps (writeEntry ps) s)

/-- ERASE ENTRY's owning block (R173). -/
def eraseEntry (ps : List Byte) (s : State) : Reply :=
  match ps with
  | [ib] => withNumber 24 ib s fun i =>
    (s.setEntry i { s.schedule.get i with inUse := false }).answer
  | _ => s.refuse .badLength

/-- ERASE ENTRY (R173). -/
def execEraseEntry (l : Link) (tag : Byte) (ps : List Byte) (s : State) :
    Host.Outcome State Fault Refusal :=
  .next (takeCommand .eraseEntry l tag ps (eraseEntry ps) s)

/-- READ ENTRY's owning block (R173). -/
def readEntry (ps : List Byte) (s : State) : Reply :=
  match ps with
  | [ib] => withNumber 24 ib s fun i => s.answerData (s.schedule.get i).bytes
  | _ => s.refuse .badLength

/-- READ ENTRY (R173). -/
def execReadEntry (l : Link) (tag : Byte) (ps : List Byte) (s : State) :
    Host.Outcome State Fault Refusal :=
  .next (takeCommand .readEntry l tag ps (readEntry ps) s)

end Sys2Proof.Machine
end

