-- ==== Sys2Proof/Machine/FlagCommands.lean ====
section
/-! DEFINITION. SET BASE and the flag commands (6.6). -/

namespace Sys2Proof.Machine

/-- SET BASE's owning block (R126). -/
def setBase (l : Link) (ps : List Byte) (s : State) : Reply :=
  match ps with
  | [b] => withChannel b s fun base => (s.setLink l { s.link l with base := base }).answer
  | _ => s.refuse .badLength

/-- SET BASE (R126). -/
def execSetBase (l : Link) (tag : Byte) (ps : List Byte) (s : State) :
    Host.Outcome State Fault Refusal :=
  .next (takeCommand .setBase l tag ps (setBase l ps) s)

/-- A displacement lies in −16..+15 (R127). -/
def dispOk (d : Byte) : Bool := decide (-16 ≤ s8 d) && decide (s8 d ≤ 15)

/-- A channel number given as a whole number; none outside 0..31. -/
def channelAt (n : Int) : Option ChannelNo :=
  if h : 0 ≤ n ∧ n < 32 then some ⟨n.toNat, by omega⟩ else none

/-- The base of a link plus a displacement (R127). -/
def State.addressed (s : State) (l : Link) (d : Byte) : Int := ((s.link l).base.val : Int) + s8 d

/-- The checks of R127 in their order, then the command on the addressed channel and the selected flag. -/
def withFlag (l : Link) (d f : Byte) (s : State) (k : ChannelNo → FlagName → Reply) : Reply :=
  if dispOk d = false then s.refuse .badValue
  else match channelAt (s.addressed l d) with
    | none => s.refuse .badChannel
    | some ch =>
      match parseFlag f with
      | none => s.refuse .badValue
      | some flag => k ch flag

/-- A flag of one channel set or cleared. -/
def State.putFlag (s : State) (ch : ChannelNo) (f : FlagName) (v : Bool) : State :=
  s.setChan ch ((s.chan ch).setFlag f v)

/-- FLAG SET's owning block (R127). -/
def flagSet (l : Link) (ps : List Byte) (s : State) : Reply :=
  match ps with
  | [d, f] => withFlag l d f s fun ch flag => (s.putFlag ch flag true).answer
  | _ => s.refuse .badLength

/-- FLAG SET (R127). -/
def execFlagSet (l : Link) (tag : Byte) (ps : List Byte) (s : State) :
    Host.Outcome State Fault Refusal :=
  .next (takeCommand .flagSet l tag ps (flagSet l ps) s)

/-- FLAG CLEAR's owning block (R127). -/
def flagClear (l : Link) (ps : List Byte) (s : State) : Reply :=
  match ps with
  | [d, f] => withFlag l d f s fun ch flag => (s.putFlag ch flag false).answer
  | _ => s.refuse .badLength

/-- FLAG CLEAR (R127). -/
def execFlagClear (l : Link) (tag : Byte) (ps : List Byte) (s : State) :
    Host.Outcome State Fault Refusal :=
  .next (takeCommand .flagClear l tag ps (flagClear l ps) s)

/-- FLAG TEST's owning block (R127). -/
def flagTest (l : Link) (ps : List Byte) (s : State) : Reply :=
  match ps with
  | [d, f] => withFlag l d f s fun ch flag => s.answerData [onOff ((s.chan ch).flag flag)]
  | _ => s.refuse .badLength

/-- FLAG TEST (R127). -/
def execFlagTest (l : Link) (tag : Byte) (ps : List Byte) (s : State) :
    Host.Outcome State Fault Refusal :=
  .next (takeCommand .flagTest l tag ps (flagTest l ps) s)

/-- The checks of R128 in their order, the value's apart: displacement and count, the addressed run, the
selector; then the command on the first channel, the count and the flag. -/
def withField (l : Link) (d n f : Byte) (s : State) (k : ChannelNo → Nat → FlagName → Reply) : Reply :=
  if dispOk d = false ∨ n.toNat = 0 ∨ 16 < n.toNat then s.refuse .badValue
  else match channelAt (s.addressed l d) with
    | none => s.refuse .badChannel
    | some ch =>
      if 32 < ch.val + n.toNat then s.refuse .badChannel
      else match parseFlag f with
        | none => s.refuse .badValue
        | some flag => k ch n.toNat flag

/-- The selected flag of each channel of a run set from the positions of a value (R128). -/
def State.putField (s : State) (first : ChannelNo) (count : Nat) (f : FlagName) (v : BitVec 16) : State :=
  { s with
    channels := s.channels.mapIdx fun i c =>
      if first.val ≤ i ∧ i < first.val + count then c.setFlag f (v.getLsbD (i - first.val)) else c }

/-- A 16-position value as two bytes, high byte first. -/
def fieldValue (hi lo : Byte) : BitVec 16 := hi ++ lo

/-- FIELD WRITE's owning block (R128). -/
def fieldWrite (l : Link) (ps : List Byte) (s : State) : Reply :=
  match ps with
  | [d, n, f, v1, v0] => withField l d n f s fun ch count flag =>
    if (fieldValue v1 v0).toNat < 2 ^ count then
      (s.putField ch count flag (fieldValue v1 v0)).answer
    else s.refuse .badValue
  | _ => s.refuse .badLength

/-- FIELD WRITE (R128). -/
def execFieldWrite (l : Link) (tag : Byte) (ps : List Byte) (s : State) :
    Host.Outcome State Fault Refusal :=
  .next (takeCommand .fieldWrite l tag ps (fieldWrite l ps) s)

/-- The flags of a run of channels as a number, position k for channel first + k (R129). -/
def State.fieldNat (s : State) (first : Nat) (f : FlagName) : Nat → Nat
  | 0 => 0
  | k + 1 =>
    s.fieldNat first f k +
      (match channelAt ((first : Int) + k) with
        | some ch => if (s.chan ch).flag f then 2 ^ k else 0
        | none => 0)

/-- FIELD READ's owning block (R129). -/
def fieldRead (l : Link) (ps : List Byte) (s : State) : Reply :=
  match ps with
  | [d, n, f] => withField l d n f s fun ch count flag =>
    s.answerData (u16Bytes (s.fieldNat ch.val flag count))
  | _ => s.refuse .badLength

/-- FIELD READ (R129). -/
def execFieldRead (l : Link) (tag : Byte) (ps : List Byte) (s : State) :
    Host.Outcome State Fault Refusal :=
  .next (takeCommand .fieldRead l tag ps (fieldRead l ps) s)

end Sys2Proof.Machine
end

