-- ==== Sys2Proof/Machine/GroupCommands.lean ====
section
/-! DEFINITION. WRITE GROUP, READ GROUP, OVERRIDE PUSH and OVERRIDE POP (7.4). -/

namespace Sys2Proof.Machine

/-- WRITE GROUP's owning block (R150). -/
def writeGroup (ps : List Byte) (s : State) : Reply :=
  match ps with
  | [gb, pb] => withNumber 8 gb s fun g => withNumber 16 pb s fun p =>
    (s.setGroup g { s.groups.get g with default := p }).answer
  | _ => s.refuse .badLength

/-- WRITE GROUP (R150). -/
def execWriteGroup (l : Link) (tag : Byte) (ps : List Byte) (s : State) :
    Host.Outcome State Fault Refusal :=
  .next (takeCommand .writeGroup l tag ps (writeGroup ps) s)

/-- READ GROUP's owning block (R155). -/
def readGroup (ps : List Byte) (s : State) : Reply :=
  match ps with
  | [gb] => withNumber 8 gb s fun g =>
    s.answerData ((s.groups.get g).bytes (s.heldOf (s.groups.get g).applied))
  | _ => s.refuse .badLength

/-- READ GROUP (R155). -/
def execReadGroup (l : Link) (tag : Byte) (ps : List Byte) (s : State) :
    Host.Outcome State Fault Refusal :=
  .next (takeCommand .readGroup l tag ps (readGroup ps) s)

/-- OVERRIDE PUSH's owning block (R152). -/
def overridePush (ps : List Byte) (s : State) : Reply :=
  match ps with
  | [gb, pb] => withNumber 8 gb s fun g => withNumber 16 pb s fun p =>
    if 4 ≤ (s.groups.get g).stack.length then s.refuse .stackFull
    else (s.restack g ((s.groups.get g).stack ++ [p])).answer
  | _ => s.refuse .badLength

/-- OVERRIDE PUSH (R152). -/
def execOverridePush (l : Link) (tag : Byte) (ps : List Byte) (s : State) :
    Host.Outcome State Fault Refusal :=
  .next (takeCommand .overridePush l tag ps (overridePush ps) s)

/-- OVERRIDE POP's owning block (R153). -/
def overridePop (ps : List Byte) (s : State) : Reply :=
  match ps with
  | [gb] => withNumber 8 gb s fun g =>
    if (s.groups.get g).stack.isEmpty then s.refuse .stackEmpty
    else (s.restack g (s.groups.get g).stack.dropLast).answer
  | _ => s.refuse .badLength

/-- OVERRIDE POP (R153). -/
def execOverridePop (l : Link) (tag : Byte) (ps : List Byte) (s : State) :
    Host.Outcome State Fault Refusal :=
  .next (takeCommand .overridePop l tag ps (overridePop ps) s)

end Sys2Proof.Machine
end

