-- ==== Sys2Proof/Machine/LinkCommands.lean ====
section
/-! DEFINITION. The link controllers' own commands (10.1, 10.3, 10.4): UNKNOWN_COMMAND, READ ATTENTION,
SET ATTENTION MASK and DEVICE RESTART. -/

namespace Sys2Proof.Machine

/-- A frame with a CODE outside the catalogue, answered UNKNOWN_COMMAND (R208). -/
def State.takeUnknown (s : State) (l : Link) (code tag : Byte) : State :=
  if s.resetAsserted then s
  else if (s.link l).busy then s.linkError l .overrun
  else (s.refuse .unknownCommand).send l code tag

/-- UNKNOWN_COMMAND (R208). A CODE of the catalogue is refused: such a frame is the command it names. -/
def execUnknownCommand (l : Link) (code tag : Byte) (_ps : List Byte) (s : State) :
    Host.Outcome State Fault Refusal :=
  if (Opcode.ofCode code).isSome then .refused (.codeNamesACommand code)
  else .next (s.takeUnknown l code tag)

/-- READ ATTENTION's owning block (R214): the list first, then the clears, at the same instant. -/
def readAttention (l : Link) (ps : List Byte) (s : State) : Reply :=
  match ps with
  | [] =>
    (s.modifyConds l (Conditions.afterRead l (s.link l).mask s.highway.lock)).answerData
      ((s.link l).conds.bytes l (s.link l).mask s.highway.lock s.clock.state)
  | _ => s.refuse .badLength

/-- READ ATTENTION (R214). -/
def execReadAttention (l : Link) (tag : Byte) (ps : List Byte) (s : State) :
    Host.Outcome State Fault Refusal :=
  .next (takeCommand .readAttention l tag ps (readAttention l ps) s)

/-- SET ATTENTION MASK's owning block (R212). -/
def setAttentionMask (l : Link) (ps : List Byte) (s : State) : Reply :=
  match ps with
  | [b] => withNumber 7 b s fun mask =>
    (s.setLink l (LinkCtl.refresh l { s.link l with mask := mask })).answer
  | _ => s.refuse .badLength

/-- SET ATTENTION MASK (R212). -/
def execSetAttentionMask (l : Link) (tag : Byte) (ps : List Byte) (s : State) :
    Host.Outcome State Fault Refusal :=
  .next (takeCommand .setAttentionMask l tag ps (setAttentionMask l ps) s)

/-- DEVICE RESTART's owning block (R200): the restart waits for the end of the response. -/
def deviceRestart (ps : List Byte) (s : State) : Reply :=
  match ps with
  | [] => State.answer { s with restartPending := true }
  | _ => s.refuse .badLength

/-- DEVICE RESTART (R200). -/
def execDeviceRestart (l : Link) (tag : Byte) (ps : List Byte) (s : State) :
    Host.Outcome State Fault Refusal :=
  .next (takeCommand .deviceRestart l tag ps (deviceRestart ps) s)

end Sys2Proof.Machine
end

