-- ==== Sys2Proof/Machine/ProfileCommands.lean ====
section
/-! DEFINITION. HOLD, WRITE, RESUME and READ PROFILE (7.1, 7.2). -/

namespace Sys2Proof.Machine

/-- The number check of HOLD and WRITE PROFILE: profile 0 is answered BAD_VALUE too (R137, R138). -/
def withWritable (b : Byte) (s : State) (k : ProfileNo → Reply) : Reply :=
  withNumber 16 b s fun p => if p = 0 then s.refuse .badValue else k p

def State.setProfile (s : State) (p : ProfileNo) (v : Profile) : State :=
  { s with profiles := s.profiles.set p v }

/-- HOLD PROFILE's owning block (R139). -/
def holdProfile (ps : List Byte) (s : State) : Reply :=
  match ps with
  | [b] => withWritable b s fun p =>
    if s.heldOf p then s.refuse .wrongState
    else (s.setProfile p { fields := s.fieldsOf p, held := true }).answer
  | _ => s.refuse .badLength

/-- HOLD PROFILE (R139). -/
def execHoldProfile (l : Link) (tag : Byte) (ps : List Byte) (s : State) :
    Host.Outcome State Fault Refusal :=
  .next (takeCommand .holdProfile l tag ps (holdProfile ps) s)

/-- WRITE PROFILE's owning block (R142, R143): number, then fields, then state. -/
def writeProfile (ps : List Byte) (s : State) : Reply :=
  match ps with
  | b :: fields => withWritable b s fun p =>
    match parseProfileFields fields with
    | none => s.refuse .badValue
    | some v =>
      if s.heldOf p then (s.setProfile p { fields := v, held := true }).answer
      else s.refuse .notHeld
  | _ => s.refuse .badLength

/-- WRITE PROFILE (R142, R143). -/
def execWriteProfile (l : Link) (tag : Byte) (ps : List Byte) (s : State) :
    Host.Outcome State Fault Refusal :=
  .next (takeCommand .writeProfile l tag ps (writeProfile ps) s)

/-- RESUME PROFILE's owning block (R144). -/
def resumeProfile (ps : List Byte) (s : State) : Reply :=
  match ps with
  | [b] => withNumber 16 b s fun p =>
    if s.heldOf p then
      ((s.setProfile p { fields := s.fieldsOf p, held := false }).applyWhere p
        fun c => c.profile == p).answer
    else s.refuse .wrongState
  | _ => s.refuse .badLength

/-- RESUME PROFILE (R144). -/
def execResumeProfile (l : Link) (tag : Byte) (ps : List Byte) (s : State) :
    Host.Outcome State Fault Refusal :=
  .next (takeCommand .resumeProfile l tag ps (resumeProfile ps) s)

/-- READ PROFILE's owning block (R141). -/
def readProfile (ps : List Byte) (s : State) : Reply :=
  match ps with
  | [b] => withNumber 16 b s fun p => s.answerData (s.profiles.get p).bytes
  | _ => s.refuse .badLength

/-- READ PROFILE (R141). -/
def execReadProfile (l : Link) (tag : Byte) (ps : List Byte) (s : State) :
    Host.Outcome State Fault Refusal :=
  .next (takeCommand .readProfile l tag ps (readProfile ps) s)

end Sys2Proof.Machine
end

