-- ==== Sys2Proof/Machine/RingCommands.lean ====
section
/-! DEFINITION. READ SLOT and RETURN SLOT (9.6). -/

namespace Sys2Proof.Machine

/-- The owner's check: NOT_OWNER for a slot of the other link or of DEVICE (R192, R193). -/
def withOwned (l : Link) (i : SlotNo) (s : State) (k : Record → Reply) : Reply :=
  match s.ring.slots.get i with
  | .device => s.refuse .notOwner
  | .owned o r => if o = l then k r else s.refuse .notOwner

/-- READ SLOT's owning block (R192). -/
def readSlot (l : Link) (ps : List Byte) (s : State) : Reply :=
  match ps with
  | [b] => withNumber 64 b s fun i => withOwned l i s fun r => s.answerData r.bytes
  | _ => s.refuse .badLength

/-- READ SLOT (R192). -/
def execReadSlot (l : Link) (tag : Byte) (ps : List Byte) (s : State) :
    Host.Outcome State Fault Refusal :=
  .next (takeCommand .readSlot l tag ps (readSlot l ps) s)

/-- RETURN SLOT's owning block (R193). -/
def returnSlot (l : Link) (ps : List Byte) (s : State) : Reply :=
  match ps with
  | [b] => withNumber 64 b s fun i => withOwned l i s fun _ => (s.withRing (s.ring.free i)).answer
  | _ => s.refuse .badLength

/-- RETURN SLOT (R193). -/
def execReturnSlot (l : Link) (tag : Byte) (ps : List Byte) (s : State) :
    Host.Outcome State Fault Refusal :=
  .next (takeCommand .returnSlot l tag ps (returnSlot l ps) s)

end Sys2Proof.Machine
end

