-- ==== Sys2Proof/Machine/LinkReceiver.lean ====
section
/-! DEFINITION. The link receivers and transmitters (10.2): RECEIVE_BYTE, GAP_TIMER_EXPIRY and RESPONSE_SENT. -/

namespace Sys2Proof.Machine

/-- The effect of a command that a frame carries, by its opcode (R206). -/
def runOpcode (op : Opcode) (l : Link) (tag : Byte) (ps : List Byte) (s : State) :
    Host.Outcome State Fault Refusal :=
  match op with
  | .readAttention => execReadAttention l tag ps s
  | .setAttentionMask => execSetAttentionMask l tag ps s
  | .deviceRestart => execDeviceRestart l tag ps s
  | .seize => execSeize l tag ps s
  | .clear => execClear l tag ps s
  | .modifyCall => execModifyCall l tag ps s
  | .block => execBlock l tag ps s
  | .unblock => execUnblock l tag ps s
  | .forceRelease => execForceRelease l tag ps s
  | .restartChannel => execRestartChannel l tag ps s
  | .readChannel => execReadChannel l tag ps s
  | .assignChannel => execAssignChannel l tag ps s
  | .setBase => execSetBase l tag ps s
  | .flagSet => execFlagSet l tag ps s
  | .flagClear => execFlagClear l tag ps s
  | .flagTest => execFlagTest l tag ps s
  | .fieldWrite => execFieldWrite l tag ps s
  | .fieldRead => execFieldRead l tag ps s
  | .holdProfile => execHoldProfile l tag ps s
  | .writeProfile => execWriteProfile l tag ps s
  | .resumeProfile => execResumeProfile l tag ps s
  | .readProfile => execReadProfile l tag ps s
  | .writeGroup => execWriteGroup l tag ps s
  | .readGroup => execReadGroup l tag ps s
  | .overridePush => execOverridePush l tag ps s
  | .overridePop => execOverridePop l tag ps s
  | .timeSet => execTimeSet l tag ps s
  | .timeRead => execTimeRead l tag ps s
  | .writeEntry => execWriteEntry l tag ps s
  | .eraseEntry => execEraseEntry l tag ps s
  | .readEntry => execReadEntry l tag ps s
  | .readSlot => execReadSlot l tag ps s
  | .returnSlot => execReturnSlot l tag ps s
  | .requestCapture => execRequestCapture l tag ps s

/-- A frame taken with this CODE, TAG and parameters (R206, R208). -/
def takeFrame (l : Link) (code tag : Byte) (ps : List Byte) (s : State) :
    Host.Outcome State Fault Refusal :=
  match Opcode.ofCode code with
  | some op => runOpcode op l tag ps s
  | none => execUnknownCommand l code tag ps s

/-- A link's receiver enters a state. -/
def State.setRx (s : State) (l : Link) (rx : Receiver) : State :=
  s.setLink l { s.link l with rx := rx }

/-- A complete frame is judged: OVERRUN on a busy link, BAD_CHECK when its check fails, else it is taken (R203
to R206). -/
def judgeFrame (l : Link) (bytes : List Byte) (s : State) : Host.Outcome State Fault Refusal :=
  if (s.link l).busy then .next (s.linkError l .overrun)
  else if frameCheckOk bytes = false then .next (s.linkError l .badCheck)
  else match frameFields bytes with
    | some (code, tag, ps) => takeFrame l code tag ps s
    | none => .next (s.linkError l .badCheck)

/-- A byte taken into the frame in progress; `bytes` is the frame with it (R202). -/
def extendFrame (l : Link) (bytes : List Byte) (s : State) : Host.Outcome State Fault Refusal :=
  match bytes with
  | [_, len] =>
    if len.toNat < 2 ∨ 60 < len.toNat then .next ((s.setRx l .hunt).linkError l .badLength)
    else .next (s.setRx l (.receiving bytes))
  | _ =>
    if frameComplete bytes then judgeFrame l bytes (s.setRx l .settle)
    else .next (s.setRx l (.receiving bytes))

/-- RECEIVE_BYTE (R202 to R206). -/
def execReceiveByte (l : Link) (b : Byte) (s : State) : Host.Outcome State Fault Refusal :=
  if s.resetAsserted then .next s
  else match (s.link l).rx with
    | .hunt => .next s
    | .settle => .next ((s.setRx l .hunt).linkError l .badStart)
    | .ready =>
      if b = startByte then .next (s.setRx l (.receiving [b]))
      else .next ((s.setRx l .hunt).linkError l .badStart)
    | .receiving bytes => extendFrame l (bytes ++ [b]) s

/-- GAP_TIMER_EXPIRY (R202); the silence itself is measured outside the model (assumption 10). -/
def execGapTimerExpiry (l : Link) (s : State) : Host.Outcome State Fault Refusal :=
  .next
    (if s.resetAsserted then s
    else match (s.link l).rx with
      | .hunt => s.setRx l .ready
      | .settle => s.setRx l .ready
      | .ready => s
      | .receiving _ => (s.setRx l .ready).linkError l .timeout)

/-- The response on the M-link that has just ended is that of a DEVICE RESTART (R200). -/
def State.restartsNow (s : State) (l : Link) : Bool := l == .mLink && s.restartPending

/-- RESPONSE_SENT (R205): the busy mark is cleared; when a DEVICE RESTART waits for this response, the restart takes
place at the same instant (R200). No event when no response is in transit, nor while RESET_N is asserted
(R199). DEDUCED, safe: assumption 9. -/
def execResponseSent (l : Link) (s : State) : Host.Outcome State Fault Refusal :=
  .next
    (if s.resetAsserted || (s.link l).tx.isNone then s
    else if s.restartsNow l then s.restart
    else s.setLink l (s.link l).endResponse)

end Sys2Proof.Machine
end

