-- ==== Sys2Proof/Machine/ResetEvents.lean ====
section
/-! DEFINITION. RESET_ASSERT, RESET_RELEASE and RESTART_INSTANT (10.1). -/

namespace Sys2Proof.Machine

/-- A link controller while RESET_N is asserted: no condition pending, the line inactive (R199). -/
def LinkCtl.inReset : LinkCtl := { LinkCtl.powerOn with conds := Conditions.quiet, line := false }

/-- RESET_ASSERT (R199, R3, R15). What the blocks hold while RESET_N is asserted reaches no pin; the model gives them
their power-on values at once: DESIGN CHOICE, unsafe, assumption 5. -/
def execResetAssert (s : State) : Host.Outcome State Fault Refusal :=
  .next
    { State.reset with
      resetAsserted := true, links := ⟨LinkCtl.inReset, LinkCtl.inReset⟩, freeDraws := s.freeDraws,
      pending := s.pending }

/-- RESET_RELEASE (R199): every block holds its power-on values. A release without an assertion is no event. -/
def execResetRelease (s : State) : Host.Outcome State Fault Refusal :=
  .next
    (if s.resetAsserted then { State.reset with freeDraws := s.freeDraws, pending := s.pending } else s)

/-- RESTART_INSTANT (R200, R201): the last byte of the DEVICE RESTART response has been sent, and the restart takes
place. No event when no restart waits, nor while RESET_N is asserted. -/
def execRestartInstant (s : State) : Host.Outcome State Fault Refusal :=
  .next (if s.resetAsserted || !s.restartPending then s else s.restart)

end Sys2Proof.Machine
end

