-- ==== Sys2Proof/Machine/Dispatch.lean ====
section
/-! DEFINITION. One arm for each command and event of the part. -/

namespace Sys2Proof.Machine

def exec (i : Instr) (s : State) : Host.Outcome State Fault Refusal :=
  match i with
  | .resetAssert => Sys2Proof.Machine.execResetAssert s
  | .resetRelease => Sys2Proof.Machine.execResetRelease s
  | .fsyncPulse bit ns => Sys2Proof.Machine.execFsyncPulse bit ns s
  | .pulseTimeout => Sys2Proof.Machine.execPulseTimeout s
  | .bclkStopped fromBit => Sys2Proof.Machine.execBclkStopped fromBit s
  | .expectedPosition fsync => Sys2Proof.Machine.execExpectedPosition fsync s
  | .frameEvent ch t u => Sys2Proof.Machine.execFrameEvent ch t u s
  | .blockEnd ch => Sys2Proof.Machine.execBlockEnd ch s
  | .secondTick => Sys2Proof.Machine.execSecondTick s
  | .receiveByte l b => Sys2Proof.Machine.execReceiveByte l b s
  | .gapTimerExpiry l => Sys2Proof.Machine.execGapTimerExpiry l s
  | .responseSent l => Sys2Proof.Machine.execResponseSent l s
  | .unknownCommand l code tag ps => Sys2Proof.Machine.execUnknownCommand l code tag ps s
  | .readAttention l tag ps => Sys2Proof.Machine.execReadAttention l tag ps s
  | .setAttentionMask l tag ps => Sys2Proof.Machine.execSetAttentionMask l tag ps s
  | .deviceRestart l tag ps => Sys2Proof.Machine.execDeviceRestart l tag ps s
  | .restartInstant => Sys2Proof.Machine.execRestartInstant s
  | .seize l tag ps => Sys2Proof.Machine.execSeize l tag ps s
  | .clear l tag ps => Sys2Proof.Machine.execClear l tag ps s
  | .modifyCall l tag ps => Sys2Proof.Machine.execModifyCall l tag ps s
  | .block l tag ps => Sys2Proof.Machine.execBlock l tag ps s
  | .unblock l tag ps => Sys2Proof.Machine.execUnblock l tag ps s
  | .forceRelease l tag ps => Sys2Proof.Machine.execForceRelease l tag ps s
  | .restartChannel l tag ps => Sys2Proof.Machine.execRestartChannel l tag ps s
  | .readChannel l tag ps => Sys2Proof.Machine.execReadChannel l tag ps s
  | .assignChannel l tag ps => Sys2Proof.Machine.execAssignChannel l tag ps s
  | .setBase l tag ps => Sys2Proof.Machine.execSetBase l tag ps s
  | .flagSet l tag ps => Sys2Proof.Machine.execFlagSet l tag ps s
  | .flagClear l tag ps => Sys2Proof.Machine.execFlagClear l tag ps s
  | .flagTest l tag ps => Sys2Proof.Machine.execFlagTest l tag ps s
  | .fieldWrite l tag ps => Sys2Proof.Machine.execFieldWrite l tag ps s
  | .fieldRead l tag ps => Sys2Proof.Machine.execFieldRead l tag ps s
  | .holdProfile l tag ps => Sys2Proof.Machine.execHoldProfile l tag ps s
  | .writeProfile l tag ps => Sys2Proof.Machine.execWriteProfile l tag ps s
  | .resumeProfile l tag ps => Sys2Proof.Machine.execResumeProfile l tag ps s
  | .readProfile l tag ps => Sys2Proof.Machine.execReadProfile l tag ps s
  | .writeGroup l tag ps => Sys2Proof.Machine.execWriteGroup l tag ps s
  | .readGroup l tag ps => Sys2Proof.Machine.execReadGroup l tag ps s
  | .overridePush l tag ps => Sys2Proof.Machine.execOverridePush l tag ps s
  | .overridePop l tag ps => Sys2Proof.Machine.execOverridePop l tag ps s
  | .timeSet l tag ps => Sys2Proof.Machine.execTimeSet l tag ps s
  | .timeRead l tag ps => Sys2Proof.Machine.execTimeRead l tag ps s
  | .writeEntry l tag ps => Sys2Proof.Machine.execWriteEntry l tag ps s
  | .eraseEntry l tag ps => Sys2Proof.Machine.execEraseEntry l tag ps s
  | .readEntry l tag ps => Sys2Proof.Machine.execReadEntry l tag ps s
  | .readSlot l tag ps => Sys2Proof.Machine.execReadSlot l tag ps s
  | .returnSlot l tag ps => Sys2Proof.Machine.execReturnSlot l tag ps s
  | .requestCapture l tag ps => Sys2Proof.Machine.execRequestCapture l tag ps s

end Sys2Proof.Machine
end

