-- ==== Sys2Proof/Safety.lean ====
section
/-! DEFINITION. What a sound state of the part is: the manual's "laws of the device" and the ranges it gives each
item, as predicates on State. A safe run is one whose every state satisfies them. -/

namespace Sys2Proof.Machine

/-- A sample lies in −32768..32767. -/
def inSampleRange (v : Int) : Prop := -32768 ≤ v ∧ v ≤ 32767

/-! ## One channel -/

/-- R19: P is the sum of the squares of the window's samples, Xpk the largest magnitude among them. -/
def Channel.Measured (c : Channel) : Prop :=
  c.echo.energy = sumSquares (c.echo.windowSamples c.params) ∧
    c.echo.peak = largestMagnitude (c.echo.windowSamples c.params)

/-- R16 and R1: every history entry and every output sample lies in the sample range. -/
def Channel.SamplesInRange (c : Channel) : Prop :=
  (∀ x ∈ c.echo.history.data, inSampleRange x) ∧ inSampleRange c.xOut ∧ inSampleRange c.zOut ∧
    inSampleRange c.xNext ∧ inSampleRange c.zNext

/-- R21: every tap lies in −4,194,304..4,194,303. -/
def Channel.TapsInRange (c : Channel) : Prop :=
  ∀ h ∈ c.echo.taps.data, -4194304 ≤ h ∧ h ≤ 4194303

/-- R22: in CALL and TEST the taps h_W..h_511 are all 0. -/
def Channel.TailZero (c : Channel) : Prop :=
  c.active = true → ∀ h ∈ c.echo.taps.data.drop c.params.window, h = 0

/-- R52: an UNTRAINED channel has every coefficient 0. -/
def Channel.UntrainedZero (c : Channel) : Prop :=
  c.near.conv = .untrained → ∀ h ∈ c.echo.taps.data, h = 0

/-- The runs lie below their thresholds between block ends (chapter 3, chapter 4, R99). -/
def Channel.RunsBounded (c : Channel) : Prop :=
  c.near.goodRun ≤ 7 ∧ c.near.badRun ≤ 3 ∧ c.near.divRun ≤ 2 ∧ c.near.blanking ≤ 40 ∧
    c.tone.trunk.run ≤ 80 ∧ c.tone.exchange.run ≤ 80 ∧ c.tone.quietRun ≤ 49 ∧
    c.rLevel.raiseRun ≤ 19 ∧ c.tLevel.raiseRun ≤ 19

/-- R90: the gain index of each path lies within the bounds of the applied parameter set. -/
def Channel.GainsInBounds (c : Channel) : Prop :=
  c.params.rPath.gMin ≤ c.rLevel.gain ∧ c.rLevel.gain ≤ c.params.rPath.gMax ∧
    c.params.tPath.gMin ≤ c.tLevel.gain ∧ c.tLevel.gain ≤ c.params.tPath.gMax

/-- R131: the statistics lie within their saturating values. -/
def Stats.Bounded (s : Stats) : Prop :=
  s.duration ≤ 65535 ∧ s.goodBlocks ≤ 65535 ∧ s.nearBlocks ≤ 65535 ∧ s.saturations ≤ 65535 ∧
    s.clipsR ≤ 65535 ∧ s.clipsT ≤ 65535 ∧ s.toneEntries ≤ 255 ∧ s.divergences ≤ 255

/-! ## The whole part -/

/-- A predicate holds of every channel. -/
def State.EveryChannel (P : Channel → Prop) (s : State) : Prop := ∀ ch : ChannelNo, P (s.chan ch)

/-- R19 on every channel. -/
def State.Measured (s : State) : Prop := s.EveryChannel Channel.Measured

/-- R16, R21, R22 and R52 on every channel. -/
def State.CoefficientsSound (s : State) : Prop :=
  s.EveryChannel fun c => c.TapsInRange ∧ c.TailZero ∧ c.UntrainedZero

/-- Samples in range on every channel. -/
def State.SamplesSound (s : State) : Prop := s.EveryChannel Channel.SamplesInRange

/-- Runs and statistics in range on every channel. -/
def State.CountsSound (s : State) : Prop :=
  s.EveryChannel fun c => c.RunsBounded ∧ c.stats.Bounded

/-- R136 and R90: every profile and every applied parameter set is valid, and every gain index lies in bounds. -/
def State.LevelsSound (s : State) : Prop :=
  (∀ p : ProfileNo, (s.fieldsOf p).valid = true) ∧
    s.EveryChannel fun c => c.params.valid = true ∧ c.GainsInBounds

/-- R109 and R107: references lie in 1..65535, and no two channels in CALL hold the same one. -/
def State.ReferencesUnique (s : State) : Prop :=
  (∀ ch ref, (s.chan ch).holdsRef ref = true → 1 ≤ ref ∧ ref ≤ 65535) ∧
    ∀ a b ref, (s.chan a).holdsRef ref = true → (s.chan b).holdsRef ref = true → a = b

/-- R149 and R151: a stack holds at most 4 numbers; the applied profile is its top, or the scheduled profile when
it is empty; each channel's applied profile number is its group's applied profile. -/
def State.GroupsSound (s : State) : Prop :=
  (∀ g : GroupNo, (s.groups.get g).stack.length ≤ 4 ∧
      (s.groups.get g).applied = appliedOf (s.groups.get g).stack (s.groups.get g).scheduled) ∧
    s.EveryChannel fun c => c.profile = (s.groups.get c.group).applied

/-- R137: profile 0 holds its fixed values and is OPEN. -/
def State.ProfileZeroFixed (s : State) : Prop :=
  s.fieldsOf 0 = profileZero ∧ s.heldOf 0 = false

/-- R161: the clock's fields form a valid date, time and weekday, and the frame in second lies in 0..7999. A second
tick is owed only at 7999: DEDUCED, unsafe, assumptions 4 and 6. -/
def State.ClockSound (s : State) : Prop :=
  s.clock.valid = true ∧ s.clock.fis ≤ 7999 ∧ (s.tickDue = true → s.clock.fis = 7999)

/-- R178: a slot owned by a link holds a record whose destination is that link. -/
def State.SlotsSound (s : State) : Prop :=
  ∀ (i : SlotNo) (l : Link) (r : Record), s.ring.slots.get i = .owned l r → r.dest = l

/-- R194 and R218: each link controller holds the ring's report, and RECORDS_WAITING with it. -/
def State.ReportsCurrent (s : State) : Prop :=
  ∀ l : Link, (s.link l).conds.owned = s.ring.ownedCount l ∧ (s.link l).conds.oldest = s.ring.oldest l

/-- R213: a link's line is active exactly when it has a pending condition that the mask admits. -/
def State.LinesFollow (s : State) : Prop :=
  ∀ l : Link, (s.link l).line = (s.link l).conds.drives l (s.link l).mask

/-- R205 and R200: a link is busy exactly while its response is in transit, and a restart waits only for a
response on the M-link. -/
def State.TransmittersSound (s : State) : Prop :=
  (∀ l : Link, (s.link l).busy = (s.link l).tx.isSome) ∧
    (s.restartPending = true → s.links.m.busy = true)

/-- R3, R8 and R10: out of LOCKED both outputs are 0, no frame event, block end or second tick is owed, and there
is no expected position; the runs and the frame counter lie in their ranges. -/
def State.HighwaySound (s : State) : Prop :=
  (s.highway.lock ≠ .locked →
      s.EveryChannel (fun c => c.xOut = 0 ∧ c.zOut = 0 ∧ c.frameDue = false ∧ c.blockDue = false) ∧
        s.tickDue = false ∧ s.highway.expected = none ∧ s.highway.goodRun ≤ 7) ∧
    (s.highway.lock = .locked → s.highway.expected.isSome = true ∧ s.highway.badRun ≤ 2) ∧
    s.highway.frame ≤ 7999

end Sys2Proof.Machine
end

