-- ==== Sys2Proof/WellFormed.lean ====
section
/-! DEFINITION. Which terms of Instr stand for something that can reach the part. -/

namespace Sys2Proof

/-- The longest parameter list a frame can carry: LEN is at most 60 and counts CODE and TAG (R202). -/
def maxParams : Nat := 58

/-- A command's parameters fit in a frame. -/
def paramsFit (ps : List Byte) : Bool :=
  ps.length ≤ maxParams

/-- A term is well formed when some input of the part spells it: a command's parameters fit in a frame (R202);
an unknown command's CODE is in no row of the catalogue (R208); BCLK stops at a bit period of the frame (R1). -/
def Instr.WellFormed (i : Instr) : Bool :=
  match i with
  | .bclkStopped fromBit => fromBit < 512
  | .unknownCommand _ code _ ps => (Opcode.ofCode code).isNone && paramsFit ps
  | .readAttention _ _ ps => paramsFit ps
  | .setAttentionMask _ _ ps => paramsFit ps
  | .deviceRestart _ _ ps => paramsFit ps
  | .seize _ _ ps => paramsFit ps
  | .clear _ _ ps => paramsFit ps
  | .modifyCall _ _ ps => paramsFit ps
  | .block _ _ ps => paramsFit ps
  | .unblock _ _ ps => paramsFit ps
  | .forceRelease _ _ ps => paramsFit ps
  | .restartChannel _ _ ps => paramsFit ps
  | .readChannel _ _ ps => paramsFit ps
  | .assignChannel _ _ ps => paramsFit ps
  | .setBase _ _ ps => paramsFit ps
  | .flagSet _ _ ps => paramsFit ps
  | .flagClear _ _ ps => paramsFit ps
  | .flagTest _ _ ps => paramsFit ps
  | .fieldWrite _ _ ps => paramsFit ps
  | .fieldRead _ _ ps => paramsFit ps
  | .holdProfile _ _ ps => paramsFit ps
  | .writeProfile _ _ ps => paramsFit ps
  | .resumeProfile _ _ ps => paramsFit ps
  | .readProfile _ _ ps => paramsFit ps
  | .writeGroup _ _ ps => paramsFit ps
  | .readGroup _ _ ps => paramsFit ps
  | .overridePush _ _ ps => paramsFit ps
  | .overridePop _ _ ps => paramsFit ps
  | .timeSet _ _ ps => paramsFit ps
  | .timeRead _ _ ps => paramsFit ps
  | .writeEntry _ _ ps => paramsFit ps
  | .eraseEntry _ _ ps => paramsFit ps
  | .readEntry _ _ ps => paramsFit ps
  | .readSlot _ _ ps => paramsFit ps
  | .returnSlot _ _ ps => paramsFit ps
  | .requestCapture _ _ ps => paramsFit ps
  | .resetAssert => true
  | .resetRelease => true
  | .fsyncPulse _ _ => true
  | .pulseTimeout => true
  | .expectedPosition _ => true
  | .frameEvent _ _ _ => true
  | .blockEnd _ => true
  | .secondTick => true
  | .receiveByte _ _ => true
  | .gapTimerExpiry _ => true
  | .responseSent _ => true
  | .restartInstant => true

end Sys2Proof
end

