-- ==== Sys2Proof/Certificates/Slice0/Obligations.lean ====
section
/-! DEFINITION. The statements for the provers. `Sys2Proof.Claims` says, in the manual's own terms (sums over k,
"the sample k places back"), what the statements compare the commands with; the statements are
`Obligations.<Name>`. -/

namespace Sys2Proof.Claims

open Sys2Proof.Machine

/-! ## Words of the statements -/

/-- A command that arrives on link `l` is taken: RESET_N is not asserted and the link is not busy (R199, R205). -/
def Free (l : Link) (s : State) : Prop := s.resetAsserted = false ∧ (s.link l).busy = false

/-- `t`, with the response to a command of CODE `op` beginning on `l` and the link busy (R205, R207). -/
def respond (l : Link) (op : Opcode) (tag : Byte) (r : Result) (data : List Byte) (t : State) : State :=
  t.setLink l { t.link l with tx := some (responseFrame op.code tag r data), busy := true }

/-- Events of the highway are taken: RESET_N is not asserted and the highway is LOCKED. -/
def Running (s : State) : Prop := s.resetAsserted = false ∧ s.highway.lock = .locked

/-- A two-byte number, high byte first. -/
def num (hi lo : Byte) : Nat := hi.toNat * 256 + lo.toNat

/-- The call options that an options byte spells (11.2). -/
def optionsOf (o : Byte) : CallOptions :=
  { cancel := o.getLsbD 0, nlp := o.getLsbD 1, alc := o.getLsbD 2 }

/-- The commands of the highway: everything but the channels, the ring and the links stays, and so does every
channel other than `ch`. -/
def OnlyChannel (ch : ChannelNo) (s u : State) : Prop :=
  u.resetAsserted = s.resetAsserted ∧ u.highway = s.highway ∧ u.clock = s.clock ∧
    u.tickDue = s.tickDue ∧ u.schedule = s.schedule ∧ u.profiles = s.profiles ∧ u.groups = s.groups ∧
    u.restartPending = s.restartPending ∧ u.freeDraws = s.freeDraws ∧ u.pending = s.pending ∧
    ∀ k, k ≠ ch → u.chan k = s.chan k

/-- Link controllers differ at most in the ring's report of R194 and in the line that follows it. -/
def LinksReported (s u : State) : Prop :=
  ∀ l : Link, ∃ owned oldest line,
    u.link l =
      { s.link l with conds := { (s.link l).conds with owned := owned, oldest := oldest }, line := line }

/-! ## Values as bytes (11.2, R219, R222) -/

/-- The high byte of a two-byte field. -/
def high (n : Nat) : Byte := BitVec.ofNat 8 (n / 256)

/-- The low byte of a two-byte field, or the one byte of an unsigned field. -/
def low (n : Nat) : Byte := BitVec.ofNat 8 n

/-- A signed one-byte field, two's complement. -/
def signed (i : Int) : Byte := BitVec.ofInt 8 i

/-- An enable, a flag or a mark of its own byte: 1 on or set, 0 off or clear. -/
def mark (b : Bool) : Byte := if b then 0x01 else 0x00

/-- A set of marks at bits 0, 1 and 2; every other bit 0. -/
def markSet (b0 b1 b2 : Bool) : Byte :=
  (if b0 then 0x01 else 0x00) ||| (if b1 then 0x02 else 0x00) ||| (if b2 then 0x04 else 0x00)

/-- A channel set: channel 0 is bit 0 of the last of the four bytes. -/
def channelSet (v : BitVec 32) : List Byte :=
  [v.extractLsb' 24 8, v.extractLsb' 16 8, v.extractLsb' 8 8, v.extractLsb' 0 8]

/-- A tap as a 24-bit two's complement number, h or h + 2^24, high byte first (R222). -/
def tapData (h : Int) : List Byte :=
  [low ((h % 16777216).toNat / 65536), low ((h % 16777216).toNat / 256), low (h % 16777216).toNat]

/-- The convergence state (11.2). -/
def convergenceByte : Convergence → Byte
  | .untrained => 0x00
  | .converging => 0x01
  | .converged => 0x02

/-- The clock state (11.2). -/
def clockByte : ClockState → Byte
  | .unset => 0x00
  | .set => 0x01
  | .stale => 0x02

/-- The highway lock state (11.2). -/
def lockByte : Lock → Byte
  | .acquiring => 0x00
  | .locked => 0x01
  | .lost => 0x02

/-- The link error kind (11.2). -/
def errorByte : LinkErrorKind → Byte
  | .badStart => 0x01
  | .badLength => 0x02
  | .timeout => 0x03
  | .badCheck => 0x04
  | .overrun => 0x05

/-- The RESULT byte of a response. -/
def resultByte : Result → Byte
  | .ok => 0x00
  | .accepted => 0x01
  | .unknownCommand => 0x10
  | .badLength => 0x11
  | .badValue => 0x12
  | .badChannel => 0x13
  | .notPermitted => 0x14
  | .wrongState => 0x20
  | .inCall => 0x21
  | .inTest => 0x22
  | .duplicateCall => 0x23
  | .callMismatch => 0x24
  | .notOwner => 0x25
  | .stackFull => 0x26
  | .stackEmpty => 0x27
  | .notHeld => 0x28
  | .badTime => 0x29

/-! ## Response data and records (11.3, 11.4): in each list the place of a byte is its offset -/

/-- The eight call statistics, offsets 15 to 28 of READ CHANNEL. -/
def statsData (k : Stats) : List Byte :=
  [high k.duration, low k.duration, high k.goodBlocks, low k.goodBlocks, high k.nearBlocks,
    low k.nearBlocks, high k.saturations, low k.saturations, high k.clipsR, low k.clipsR,
    high k.clipsT, low k.clipsT, low k.toneEntries, low k.divergences]

/-- READ CHANNEL: custody, reference, options and channel marks at 0 to 4, with the absent values 0; group, profile,
flags, convergence state, tone state, bypass reasons and gain indices at 5 to 12; hangover at 13 and 14; statistics. -/
def channelData (c : Channel) : List Byte :=
  (match c.custody with
    | .idle => [0x00, 0x00, 0x00, 0x00, markSet false c.capturePending false]
    | .call ref o blocked =>
      [0x01, high ref, low ref, markSet o.cancel o.nlp o.alc, markSet blocked c.capturePending false]
    | .test => [0x02, 0x00, 0x00, 0x00, markSet false c.capturePending false]) ++
  [low c.group.val, low c.profile.val, markSet c.forceBypass c.freeze false,
    convergenceByte c.near.conv, mark c.tone.bypassed,
    (match c.custody with
      | .idle => 0x00
      | .call _ o _ => markSet (!o.cancel) c.forceBypass c.tone.bypassed
      | .test => markSet false c.forceBypass c.tone.bypassed),
    signed c.rLevel.gain, signed c.tLevel.gain, high c.near.hangover, low c.near.hangover] ++
  statsData c.stats

/-- One path's level fields, offsets 14 to 23 or 24 to 33 of the profile fields. -/
def levelData (f : LevelFields) : List Byte :=
  [mark f.alc, signed f.pad, signed f.gMin, signed f.gMax, high f.aLo, low f.aLo, high f.aHi,
    low f.aHi, high f.aSp, low f.aSp]

/-- The 34 bytes of a profile's fields. -/
def fieldData (q : ParamSet) : List Byte :=
  [high q.bulkDelay, low q.bulkDelay, high q.window, low q.window, low q.mFast, low q.nsRatio,
    high q.hangover, low q.hangover, high q.nsFloor, low q.nsFloor, high q.farFloor, low q.farFloor,
    low q.nlpDepth, mark q.toneEnable] ++ levelData q.rPath ++ levelData q.tPath

/-- READ PROFILE: the state, then the 34 bytes of its fields. -/
def profileData (p : Profile) : List Byte := mark p.held :: fieldData p.fields

/-- READ GROUP: default, scheduled, depth, the four stack positions with 0xFF beyond the depth, applied, and the
state of the applied profile. -/
def groupData (g : Group) (held : Bool) : List Byte :=
  let place (k : Nat) : Byte := if h : k < g.stack.length then low g.stack[k].val else 0xFF
  [low g.default.val, low g.scheduled.val, low g.stack.length, place 0, place 1, place 2, place 3,
    low g.applied.val, mark held]

/-- TIME READ: the state, the seven fields and the frame in second. -/
def clockData (k : Clock) : List Byte :=
  [clockByte k.state, low k.year, low k.month, low k.day, low k.time.hour, low k.time.minute,
    low k.time.second, low k.weekday, high k.fis, low k.fis]

/-- READ ENTRY: the in-use mark, group, start, end, day mask, profile. -/
def entryData (e : Entry) : List Byte :=
  [mark e.inUse, low e.group.val, low e.start.hour, low e.start.minute, low e.start.second,
    low e.stop.hour, low e.stop.minute, low e.stop.second, low e.mask.toNat, low e.profile.val]

/-- The 12-byte record header (11.4), given the record kind. -/
def headerData (kind : Byte) (r : Record) : List Byte :=
  [kind, (match r.dest with | .cLink => 0x01 | .mLink => 0x02), high r.seq, low r.seq,
    (match r.channel with | some c => low c.val | none => 0xFF), low r.stamp.time.hour,
    low r.stamp.time.minute, low r.stamp.time.second, high r.stamp.fis, low r.stamp.fis,
    markSet r.first r.last r.truncated, low r.dropped]

/-- The 22 bytes of a summary from offset 12. -/
def summaryData (s : Summary) : List Byte :=
  [high (s.ref.getD 0), low (s.ref.getD 0),
    (match s.reason with | .cleared => 0x01 | .forced => 0x02 | .testEnded => 0x03),
    low s.profile.val, convergenceByte s.conv, signed s.rGain, signed s.tGain] ++
  statsData s.stats ++ [mark s.error]

/-- The 5 bytes of an event from offset 12: code and detail. -/
def eventData : Event → List Byte
  | .diverged n => [0x01, low n, 0x00, 0x00, 0x00]
  | .toneBypassOn .trunk => [0x02, 0x01, 0x00, 0x00, 0x00]
  | .toneBypassOn .exchange => [0x02, 0x02, 0x00, 0x00, 0x00]
  | .toneBypassOn .both => [0x02, 0x03, 0x00, 0x00, 0x00]
  | .toneBypassOff => [0x03, 0x00, 0x00, 0x00, 0x00]
  | .highwayLost => [0x04, 0x00, 0x00, 0x00, 0x00]
  | .highwayRestored => [0x05, 0x00, 0x00, 0x00, 0x00]
  | .profileSwitched g a b .override => [0x06, low g.val, low a.val, low b.val, 0x01]
  | .profileSwitched g a b .schedule => [0x06, low g.val, low a.val, low b.val, 0x02]

/-- The bytes of a capture slot from offset 12: profile, D, W, first-tap index, and its taps from offset 19. -/
def captureData (c : Capture) : List Byte :=
  [low c.profile.val, high c.bulkDelay, low c.bulkDelay, high c.window, low c.window,
    high c.firstTap, low c.firstTap] ++ (c.taps.map tapData).flatten

/-- A record as READ SLOT sends it. -/
def recordData (r : Record) : List Byte :=
  match r.payload with
  | .summary s => headerData 0x01 r ++ summaryData s
  | .capture c => headerData 0x02 r ++ captureData c
  | .event e => headerData 0x03 r ++ eventData e

/-! ## Profiles (R136, R142) -/

/-- The relations of one path's level fields. -/
def LevelInRange (f : LevelFields) : Prop :=
  -12 ≤ f.gMin ∧ f.gMin ≤ f.pad ∧ f.pad ≤ f.gMax ∧ f.gMax ≤ 12 ∧
    f.aSp < f.aLo ∧ f.aLo < f.aHi ∧ f.aHi ≤ 32767

/-- The ranges and relations of a profile's fields. -/
def InRange (q : ParamSet) : Prop :=
  q.bulkDelay ≤ 960 ∧ (q.window = 128 ∨ q.window = 256 ∨ q.window = 384 ∨ q.window = 512) ∧
    1 ≤ q.mFast ∧ q.mFast ≤ 6 ∧ 1 ≤ q.nsRatio ∧ q.nsRatio ≤ 16 ∧ q.hangover ≤ 2000 ∧
    q.nsFloor ≤ 4095 ∧ 1 ≤ q.farFloor ∧ q.farFloor ≤ 4095 ∧ q.nlpDepth ≤ 4 ∧
    LevelInRange q.rPath ∧ LevelInRange q.tPath

/-- Profile 0's level fields on either path. -/
def levelAtPowerOn : LevelFields :=
  { alc := true, pad := 0, gMin := -6, gMax := 6, aLo := 1500, aHi := 3000, aSp := 200 }

/-- The profile 0 column of R136. -/
def fieldsAtPowerOn : ParamSet :=
  { bulkDelay := 0, window := 256, mFast := 3, nsRatio := 4, hangover := 240, nsFloor := 64,
    farFloor := 32, nlpDepth := 2, toneEnable := true, rPath := levelAtPowerOn,
    tPath := levelAtPowerOn }

/-! ## The catalogue of commands (R209, 11.2) -/

/-- A row of the catalogue: CODE, command, and for each link the number of parameter bytes, LEN − 2, or none where
the link does not admit the command. -/
structure CatalogueRow where
  code : Byte
  op : Opcode
  onC : Option Nat
  onM : Option Nat

/-- The parameter bytes that a link admits a command with. -/
def CatalogueRow.onLink (r : CatalogueRow) : Link → Option Nat
  | .cLink => r.onC
  | .mLink => r.onM

/-- The commands of the C-link alone. -/
def onlyOnC : List CatalogueRow :=
  [⟨0x10, .seize, some 4, none⟩, ⟨0x11, .clear, some 3, none⟩, ⟨0x12, .modifyCall, some 4, none⟩]

/-- The commands of the M-link alone. -/
def onlyOnM : List CatalogueRow :=
  [⟨0x03, .deviceRestart, none, some 0⟩, ⟨0x13, .block, none, some 1⟩,
    ⟨0x14, .unblock, none, some 1⟩, ⟨0x15, .forceRelease, none, some 1⟩,
    ⟨0x18, .assignChannel, none, some 2⟩, ⟨0x30, .holdProfile, none, some 1⟩,
    ⟨0x31, .writeProfile, none, some 35⟩, ⟨0x32, .resumeProfile, none, some 1⟩,
    ⟨0x38, .writeGroup, none, some 2⟩, ⟨0x3A, .overridePush, none, some 2⟩,
    ⟨0x3B, .overridePop, none, some 1⟩, ⟨0x40, .timeSet, none, some 7⟩,
    ⟨0x44, .writeEntry, none, some 10⟩, ⟨0x45, .eraseEntry, none, some 1⟩,
    ⟨0x52, .requestCapture, none, some 1⟩]

/-- The commands of both links. -/
def onBoth : List CatalogueRow :=
  [⟨0x01, .readAttention, some 0, some 0⟩, ⟨0x02, .setAttentionMask, some 1, some 1⟩,
    ⟨0x16, .restartChannel, some 3, some 1⟩, ⟨0x17, .readChannel, some 1, some 1⟩,
    ⟨0x20, .setBase, some 1, some 1⟩, ⟨0x21, .flagSet, some 2, some 2⟩,
    ⟨0x22, .flagClear, some 2, some 2⟩, ⟨0x23, .flagTest, some 2, some 2⟩,
    ⟨0x24, .fieldWrite, some 5, some 5⟩, ⟨0x25, .fieldRead, some 3, some 3⟩,
    ⟨0x33, .readProfile, some 1, some 1⟩, ⟨0x39, .readGroup, some 1, some 1⟩,
    ⟨0x41, .timeRead, some 0, some 0⟩, ⟨0x46, .readEntry, some 1, some 1⟩,
    ⟨0x50, .readSlot, some 1, some 1⟩, ⟨0x51, .returnSlot, some 1, some 1⟩]

/-- Every command of the part. -/
def catalogue : List CatalogueRow := onlyOnC ++ onlyOnM ++ onBoth

/-! ## The sample path of one channel (chapters 2, 3 and 5) -/

/-- Saturation of a sample. -/
def clip16 (v : Int) : Int := if v < -32768 then -32768 else if 32767 < v then 32767 else v

/-- The output of a level unit at index `i` for input `v` (R86, R87). -/
def gained (i v : Int) : Int := clip16 ((v * multiplier i + 8192) / 16384)

/-- The output of a level unit is a clip (R87). -/
def clips (i v : Int) : Bool :=
  decide ((v * multiplier i + 8192) / 16384 < -32768) ||
    decide (32767 < (v * multiplier i + 8192) / 16384)

/-- The history entry k places behind the newest; 0 past its end. -/
def sampleAt (e : Echo) (k : Nat) : Int := e.history.data.getD k 0

/-- The tap h_k. -/
def tapAt (e : Echo) (k : Nat) : Int := e.taps.data.getD k 0

/-- Σ x[n−D−k]² over k = 0..W−1 (R19). -/
def windowEnergy (p : ParamSet) (e : Echo) : Nat :=
  ∑ k ∈ Finset.range p.window, (sampleAt e (p.bulkDelay + k)).natAbs ^ 2

/-- The largest |x[n−D−k]| over k = 0..W−1 (R19). -/
def windowPeak (p : ParamSet) (e : Echo) : Nat :=
  (Finset.range p.window).sup fun k => (sampleAt e (p.bulkDelay + k)).natAbs

/-- x of a frame event in CALL or TEST (R86). -/
def newX (c : Channel) (t : Int) : Int := gained c.rLevel.gain t

/-- x[n−k] after stage 2: the new x, or the sample that stood one place nearer (R16). -/
def pastX (c : Channel) (t : Int) (k : Nat) : Int :=
  if k = 0 then newX c t else sampleAt c.echo (k - 1)

/-- The window sample x[n−D−k] that stages 3 and 6 read (R18, R30). -/
def winX (c : Channel) (t : Int) (k : Nat) : Int := pastX c t (c.params.bulkDelay + k)

/-- P after stage 2 (R19, R20). -/
def newEnergy (c : Channel) (t : Int) : Nat :=
  ∑ k ∈ Finset.range c.params.window, (winX c t k).natAbs ^ 2

/-- Xpk after stage 2 (R19, R20). -/
def newPeak (c : Channel) (t : Int) : Nat :=
  (Finset.range c.params.window).sup fun k => (winX c t k).natAbs

/-- The channel is cancelling (R26). -/
def cancels (c : Channel) : Bool :=
  (match c.custody with
    | .idle => false
    | .call _ o _ => o.cancel
    | .test => true) && !c.forceBypass && !c.tone.bypassed

/-- y (R27, R31, R32). -/
def newY (c : Channel) (t : Int) : Int :=
  if cancels c then
    clip16 (((∑ k ∈ Finset.range c.params.window, tapAt c.echo k * winX c t k) + 2097152) / 4194304)
  else 0

/-- e (R33). -/
def newE (c : Channel) (t s : Int) : Int := clip16 (s - newY c t)

/-- Near speech is declared (R46). -/
def declared (c : Channel) (t s : Int) : Bool :=
  decide (c.params.nsFloor ≤ s.natAbs) && decide (c.params.nsRatio * newPeak c t ≤ 8 * s.natAbs)

/-- The hangover counter after the sample (R47). -/
def newHangover (c : Channel) (t s : Int) : Nat :=
  if declared c t s then c.params.hangover
  else if 0 < c.near.hangover then c.near.hangover - 1 else 0

/-- Near speech is active in the sample (R47). -/
def nearNow (c : Channel) (t s : Int) : Bool := declared c t s || decide (0 < newHangover c t s)

/-- Adaptation is allowed in the sample (R51); `held` is the state of the profile the channel applies. -/
def allowed (c : Channel) (held : Bool) (t s : Int) : Bool :=
  cancels c && !nearNow c t s && decide (c.params.farFloor ≤ newPeak c t) && !c.freeze && !held &&
    decide (c.near.blanking = 0)

/-- The convergence state after stage 5 (R52). -/
def newConv (c : Channel) (held : Bool) (t s : Int) : Convergence :=
  if c.near.conv = .untrained ∧ allowed c held t s = true then .converging else c.near.conv

/-- The step exponent m (R53). -/
def exponent (c : Channel) (held : Bool) (t s : Int) : Nat :=
  if newConv c held t s = .converged then min (c.params.mFast + 2) 8 else c.params.mFast

/-- A: the quotient of e·2^(30−m) by P + δ, truncated toward zero and clamped (R35, R36). -/
def stepA (c : Channel) (held : Bool) (t s : Int) : Int :=
  let q := (newE c t s * 2 ^ (30 - exponent c held t s)).tdiv (newEnergy c t + 16 * c.params.window)
  if q < -2147483647 then -2147483647 else if 2147483647 < q then 2147483647 else q

/-- h_k + Δ_k before the clamp (R37, R38). -/
def rawTap (c : Channel) (held : Bool) (t s : Int) (k : Nat) : Int :=
  tapAt c.echo k + stepA c held t s * winX c t k / 256

/-- The tap h_k after an adapted sample (R38). -/
def adaptedTap (c : Channel) (held : Bool) (t s : Int) (k : Nat) : Int :=
  if rawTap c held t s k < -4194304 then -4194304
  else if 4194303 < rawTap c held t s k then 4194303 else rawTap c held t s k

/-- Suppression is active in the sample (R65). -/
def suppressed (c : Channel) (held : Bool) (t s : Int) : Bool :=
  cancels c && decide (newConv c held t s = .converged) && !nearNow c t s &&
    decide (c.params.farFloor ≤ newPeak c t) && decide (1 ≤ c.params.nlpDepth ∧ c.params.nlpDepth ≤ 4) &&
    (match c.custody with
      | .idle => false
      | .call _ o _ => o.nlp
      | .test => true)

/-- u (R66). -/
def newU (c : Channel) (held : Bool) (t s : Int) : Int :=
  if suppressed c held t s then (newE c t s).tdiv (2 ^ c.params.nlpDepth) else newE c t s

/-- A counter that adds 1 when `b` holds, saturating at `n`. -/
def counted (n : Nat) (b : Bool) (v : Nat) : Nat := if b = true ∧ v < n then v + 1 else v

/-! ## Clears and applies (chapters 6 and 7) -/

/-- RESTART CHANNEL's clears (R122): taps 0; UNTRAINED, runs, classification sums and hangover 0; the tone state
QUIET with its runs, powers, samples and counts 0; each index at its pad, its run, sum and mark clear. Kept: history,
P, Xpk, blanking, NLP mark, bypass mark, the cancelling note and the rest of the channel. -/
def freshSignal (c : Channel) : Channel :=
  { c with
    echo := { c.echo with taps := Table.replicate 512 0 }
    near :=
      { c.near with
        hangover := 0, ps := 0, pe := 0, nsc := 0, ac := 0, conv := .untrained, goodRun := 0,
        badRun := 0, divRun := 0 }
    tone :=
      { trunk := ⟨0, 0, 0, 0, 0⟩, exchange := ⟨0, 0, 0, 0, 0⟩, observed := 0,
        bypassMark := c.tone.bypassMark, bypassed := false, quietRun := 0 }
    rLevel := { gain := c.params.rPath.pad, raiseRun := 0, sum := 0, clipMark := false }
    tLevel := { gain := c.params.tPath.pad, raiseRun := 0, sum := 0, clipMark := false } }

/-- The start clear (R111). -/
def started (c : Channel) : Channel := { freshSignal c with stats := ⟨0, 0, 0, 0, 0, 0, 0, 0⟩ }

/-- The index that an apply of level fields `f` gives (R102). -/
def broughtInto (f : LevelFields) (i : Int) : Int :=
  if f.alc then max f.gMin (min i f.gMax) else f.pad

/-- D or W of the channel's copy differs from those of `q` (R146). -/
def moved (q : ParamSet) (c : Channel) : Bool :=
  decide (c.params.bulkDelay ≠ q.bulkDelay ∨ c.params.window ≠ q.window)

/-- The channel is in CALL or TEST. -/
def inUse (c : Channel) : Bool := decide (c.custody ≠ .idle)

/-- An apply of profile number `n` with fields `q` (R145, R146, R147). -/
def applied (n : ProfileNo) (q : ParamSet) (c : Channel) : Channel :=
  { c with
    profile := n
    params := q
    echo :=
      { history := c.echo.history
        taps := if moved q c && inUse c then Table.replicate 512 0 else c.echo.taps
        energy := if moved q c then windowEnergy q c.echo else c.echo.energy
        peak := if moved q c then windowPeak q c.echo else c.echo.peak }
    near :=
      if moved q c && inUse c then
        { c.near with
          ps := 0, pe := 0, nsc := 0, ac := 0, conv := .untrained, goodRun := 0, badRun := 0,
          divRun := 0 }
      else c.near
    rLevel :=
      { c.rLevel with
        gain := broughtInto q.rPath c.rLevel.gain
        raiseRun := if broughtInto q.rPath c.rLevel.gain = c.rLevel.gain then c.rLevel.raiseRun else 0 }
    tLevel :=
      { c.tLevel with
        gain := broughtInto q.tPath c.tLevel.gain
        raiseRun :=
          if broughtInto q.tPath c.tLevel.gain = c.tLevel.gain then c.tLevel.raiseRun else 0 } }

/-- The top of a stack, or the scheduled profile of an empty one (R149). -/
def topOr (stack : List ProfileNo) (scheduled : ProfileNo) : ProfileNo :=
  match stack.reverse with
  | [] => scheduled
  | p :: _ => p

/-- A push or pop that leaves group `g` with `stack` (R151): the applied profile recomputed and, when it changed,
applied to the group's channels and reported by PROFILE_SWITCHED with cause OVERRIDE. -/
def restacked (g : GroupNo) (stack : List ProfileNo) (s : State) : State :=
  let old := s.groups.get g
  let now := topOr stack old.scheduled
  let s1 := { s with groups := s.groups.set g { old with stack := stack, applied := now } }
  if now = old.applied then s1
  else
    State.handEvent
      { s1 with
        channels :=
          s.channels.map fun c => if c.group = g then applied now (s.profiles.get now).fields c else c }
      none (.profileSwitched g old.applied now .override)

/-! ## Custody (chapter 6) -/

/-- The summary of R132 and R184. -/
def summaryOf (c : Channel) (ref : Option Nat) (why : EndReason) : Summary :=
  { ref := ref, reason := why, profile := c.profile, conv := c.near.conv, rGain := c.rLevel.gain,
    tGain := c.tLevel.gain, stats := c.stats,
    error :=
      decide (c.stats.divergences ≠ 0 ∨ c.stats.saturations ≠ 0 ∨ c.stats.clipsR ≠ 0 ∨
        c.stats.clipsT ≠ 0) }

/-- A call with reference `ref` ends (R112, R117): its summary goes to the C-link; the channel becomes IDLE, or, with a
block pending, enters TEST with the start clear and joins BLOCK_DONE's set. -/
def callEnded (ch : ChannelNo) (why : EndReason) (ref : Nat) (blockPending : Bool) (s : State) : State :=
  let told := s.hand .cLink (some ch) (.summary (summaryOf (s.chan ch) (some ref) why))
  if blockPending then
    (told.setChan ch { started (s.chan ch) with custody := .test }).modifyConds .mLink
      fun k => { k with blockDone := k.blockDone ||| (1#32 <<< ch.val) }
  else told.setChan ch { s.chan ch with custody := .idle }

/-! ## Highway and clock (chapters 1 and 8) -/

/-- The good-pulse run after a pulse (R4). -/
def pulseRun (h : Highway) (bit ns : Nat) : Nat :=
  match h.lastPulse with
  | some q =>
    if 0 < h.goodRun ∧ bit = q.bit + 512 ∧ ns ≤ q.ns + 130000 then h.goodRun + 1 else 1
  | none => 1

/-- The frame-in-second count of a new LOCKED frame, and whether that frame raises a second tick (R13). -/
def frameCounted (s : State) : State :=
  if s.clock.fis < 7999 then { s with clock := { s.clock with fis := s.clock.fis + 1 } }
  else { s with tickDue := true }

/-- A new frame: its counter and bad run, the samples of the frame before now driven, and every frame event to come
(R2, R5, R10, R11). -/
def frameBegun (badRun : Nat) (s : State) : State :=
  frameCounted
    { s with
      highway :=
        { s.highway with
          badRun := badRun, expected := s.highway.expected.map (· + 512), misplaced := false,
          bclkStop := none,
          frame := if s.highway.frame < 7999 then s.highway.frame + 1 else 0 }
      channels :=
        s.channels.map fun c =>
          { c with
            xOut := c.xNext, zOut := c.zNext, xNext := 0, zNext := 0, frameDue := true,
            blockDue := false } }

/-- The frame that opens LOCKED at a pulse (R2, R4, R9). -/
def lockOpened (bit ns : Nat) (s : State) : State :=
  frameCounted
    { s with
      highway :=
        { lock := .locked, goodRun := 8, badRun := 0, lastPulse := some ⟨bit, ns⟩,
          expected := some (bit + 512), misplaced := false, bclkStop := none, frame := 0 }
      channels :=
        s.channels.map fun c =>
          { c with xOut := 0, zOut := 0, xNext := 0, zNext := 0, frameDue := true, blockDue := false } }

/-- What restoration does to a channel (R9): history, P and Xpk 0, blanking 40, block accumulators empty. -/
def restored (c : Channel) : Channel :=
  { c with
    echo := { c.echo with history := Table.replicate 1472 0, energy := 0, peak := 0 }
    near := { c.near with blanking := 40, ps := 0, pe := 0, nsc := 0, ac := 0, nlpMark := false }
    tone :=
      { c.tone with
        trunk := { c.tone.trunk with crossings := 0, power := 0 }
        exchange := { c.tone.exchange with crossings := 0, power := 0 }
        observed := 0
        bypassMark := false }
    rLevel := { c.rLevel with sum := 0, clipMark := false }
    tLevel := { c.tLevel with sum := 0, clipMark := false } }

/-- Days of a month (R161). -/
def daysOf (year month : Nat) : Nat :=
  if month = 2 then (if year % 4 = 0 then 29 else 28)
  else if month = 4 ∨ month = 6 ∨ month = 9 ∨ month = 11 then 30 else 31

/-- Seconds since midnight (R171). -/
def secondOfDay (t : TimeOfDay) : Nat := 3600 * t.hour + 60 * t.minute + t.second

/-- An entry matches at a time of day on a weekday (R174). -/
def Matches (e : Entry) (t : TimeOfDay) (w : Nat) : Prop :=
  e.inUse = true ∧
    ((secondOfDay e.start ≤ secondOfDay e.stop ∧ secondOfDay e.start ≤ secondOfDay t ∧
        secondOfDay t ≤ secondOfDay e.stop ∧ e.mask.getLsbD w = true) ∨
      (secondOfDay e.stop < secondOfDay e.start ∧
        ((secondOfDay e.start ≤ secondOfDay t ∧ e.mask.getLsbD w = true) ∨
          (secondOfDay t ≤ secondOfDay e.stop ∧ e.mask.getLsbD ((w + 6) % 7) = true))))

/-- `p` is the schedule's profile for group `g` under clock `k` (R175): the lowest-numbered matching entry's, or
the default. -/
def Scheduled (s : State) (k : Clock) (g : GroupNo) (p : ProfileNo) : Prop :=
  if k.state = .unset then p = (s.groups.get g).default
  else
    (∃ i : EntryNo, (s.schedule.get i).group = g ∧ Matches (s.schedule.get i) k.time k.weekday ∧
        (∀ j : EntryNo, j < i →
          ¬((s.schedule.get j).group = g ∧ Matches (s.schedule.get j) k.time k.weekday)) ∧
        p = (s.schedule.get i).profile) ∨
      ((∀ i : EntryNo, ¬((s.schedule.get i).group = g ∧ Matches (s.schedule.get i) k.time k.weekday)) ∧
        p = (s.groups.get g).default)

/-! ## Restart (chapter 10) -/

/-- What DEVICE RESTART does to a channel (R44, R70, R84, R106, R135). -/
def restartedChannel (c : Channel) : Channel :=
  { c with
    custody := .idle, forceBypass := false, freeze := false, capturePending := false
    stats := ⟨0, 0, 0, 0, 0, 0, 0, 0⟩
    echo := { c.echo with taps := Table.replicate 512 0 }
    near :=
      { hangover := 0, blanking := 0, ps := 0, pe := 0, nsc := 0, ac := 0,
        cancelling := c.near.cancelling, nlpMark := false, conv := .untrained, goodRun := 0,
        badRun := 0, divRun := 0 }
    tone :=
      { trunk := ⟨0, 0, 0, 0, 0⟩, exchange := ⟨0, 0, 0, 0, 0⟩, observed := 0, bypassMark := false,
        bypassed := false, quietRun := 0 }
    rLevel := { gain := c.params.rPath.pad, raiseRun := 0, sum := 0, clipMark := false }
    tLevel := { gain := c.params.tPath.pad, raiseRun := 0, sum := 0, clipMark := false } }

/-- A link controller after the restart; a response in transit is as given (R201). -/
def restartedLink (lock : Lock) (tx : Option (List Byte)) (busy : Bool) : LinkCtl :=
  { rx := .hunt, tx := tx, busy := busy, base := 0, mask := 6,
    conds :=
      { restarted := some lock, linkError := none, highwayFault := false, custodyNotice := 0#32,
        clockAlert := false, blockDone := 0#32, owned := 0, oldest := none }
    line := true }

/-- The part after DEVICE RESTART (R198, R201). -/
def restarted (s : State) : State :=
  { s with
    channels := s.channels.map restartedChannel
    ring :=
      { slots := Table.replicate 64 .device, writePos := 0, nextSeq := ⟨0, 0⟩, drops := ⟨0, 0⟩ }
    links :=
      ⟨restartedLink s.highway.lock s.links.c.tx s.links.c.busy,
        restartedLink s.highway.lock none false⟩
    restartPending := false }

/-! ## Links (chapter 10) -/

/-- A link error is raised (R203, R211): last kind, and a count saturating at 255. -/
def errorRaised (k : LinkErrorKind) (c : Conditions) : Conditions :=
  { c with
    linkError :=
      match c.linkError with
      | some (_, n) => some (k, if n < 255 then n + 1 else n)
      | none => some (k, 1) }

/-- The bytes of a frame arriving one after the other on link `l`. -/
def arrive (l : Link) : List Byte → State → Host.Outcome State Fault Refusal
  | [], s => .next s
  | b :: bs, s =>
    match exec (.receiveByte l b) s with
    | .next t => arrive l bs t
    | .fault r => .fault r
    | .refused r => .refused r

/-- The line of a link by R210 and R213. -/
def lineOf (l : Link) (mask : Fin 7) (c : Conditions) : Prop :=
  (c.restarted ≠ none ∧ 1 ≤ mask.val) ∨ (c.linkError ≠ none ∧ 2 ≤ mask.val) ∨
    (c.highwayFault = true ∧ 3 ≤ mask.val) ∨
    match l with
    | .cLink => (c.custodyNotice ≠ 0#32 ∧ 4 ≤ mask.val) ∨ (c.owned ≠ 0 ∧ 5 ≤ mask.val)
    | .mLink =>
      (c.clockAlert = true ∧ 4 ≤ mask.val) ∨ (c.blockDone ≠ 0#32 ∧ 5 ≤ mask.val) ∨
        (c.owned ≠ 0 ∧ 6 ≤ mask.val)

/-- One entry of READ ATTENTION when `b` holds: condition, masked mark, detail (11.3). -/
def listed (b : Bool) (mask : Fin 7) (priority : Nat) (code : Byte) (detail : List Byte) :
    List (List Byte) :=
  if b then [code :: (if mask.val < priority then 1#8 else 0#8) :: detail] else []

/-- The entries of READ ATTENTION in priority order (R210, R214). -/
def attentionEntries (l : Link) (mask : Fin 7) (lock : Lock) (clock : ClockState) (c : Conditions) :
    List (List Byte) :=
  (match c.restarted with
    | some k => listed true mask 1 0x01 [lockByte k, 0, 0, 0]
    | none => []) ++
  (match c.linkError with
    | some (k, n) => listed true mask 2 0x02 [errorByte k, low n, 0, 0]
    | none => []) ++
  listed c.highwayFault mask 3 0x03 [lockByte lock, 0, 0, 0] ++
  let records :=
    [low c.owned, match c.oldest with | some k => low k.val | none => 0, 0, 0]
  match l with
  | .cLink =>
    listed (c.custodyNotice != 0#32) mask 4 0x04 (channelSet c.custodyNotice) ++
      listed (c.owned != 0) mask 5 0x07 records
  | .mLink =>
    listed c.clockAlert mask 4 0x05 [clockByte clock, 0, 0, 0] ++
      listed (c.blockDone != 0#32) mask 5 0x06 (channelSet c.blockDone) ++
      listed (c.owned != 0) mask 6 0x07 records

/-- What READ ATTENTION clears (R214 to R218). -/
def attentionCleared (l : Link) (mask : Fin 7) (lock : Lock) (c : Conditions) : Conditions :=
  { restarted := if mask.val < 1 then c.restarted else none
    linkError := if mask.val < 2 then c.linkError else none
    highwayFault := if mask.val < 3 ∨ lock ≠ .locked then c.highwayFault else false
    custodyNotice := if mask.val < 4 ∨ l = .mLink then c.custodyNotice else 0#32
    clockAlert := c.clockAlert
    blockDone := if mask.val < 5 ∨ l = .cLink then c.blockDone else 0#32
    owned := c.owned
    oldest := c.oldest }

/-- A link error on link `l` (R203). -/
def raised (l : Link) (k : LinkErrorKind) (s : State) : State := s.modifyConds l (errorRaised k)

/-- The receiver of link `l` moves. -/
def received (l : Link) (rx : Receiver) (s : State) : State := s.setLink l { s.link l with rx := rx }

/-- LOST is entered from LOCKED (R3, R7, R8). -/
def lockLost (s : State) : State :=
  let silent : State :=
    { s with
      highway :=
        { s.highway with
          lock := .lost, goodRun := 0, badRun := 3, expected := none, misplaced := false,
          bclkStop := none }
      clock := { s.clock with state := if s.clock.state = .set then .stale else s.clock.state }
      tickDue := false
      channels :=
        s.channels.map fun c =>
          { c with xOut := 0, zOut := 0, xNext := 0, zNext := 0, frameDue := false, blockDue := false } }
  let told :=
    (silent.modifyConds .cLink fun k => { k with highwayFault := true }).modifyConds .mLink fun k =>
      { k with highwayFault := true, clockAlert := k.clockAlert || decide (s.clock.state = .set) }
  told.handEvent none .highwayLost

/-! ## Flags (6.6) -/

/-- The flag that a selector names, 1 FORCE_BYPASS or 2 FREEZE (11.2). -/
def flagOf (sel : Byte) (c : Channel) : Bool := if sel = 1#8 then c.forceBypass else c.freeze

/-- That flag set or cleared. -/
def withFlagSet (sel : Byte) (v : Bool) (c : Channel) : Channel :=
  if sel = 1#8 then { c with forceBypass := v } else { c with freeze := v }

/-- The channel that a displacement addresses on a link (R127). -/
def addressedBy (l : Link) (disp : Byte) (s : State) : Int := ((s.link l).base.val : Int) + disp.toInt

/-- The checks of R127 in order; on the addressed channel, the outcome given. -/
def flagChecked (l : Link) (op : Opcode) (tag disp sel : Byte) (s : State)
    (passed : ChannelNo → State) : State :=
  if disp.toInt < -16 ∨ 15 < disp.toInt then respond l op tag .badValue [] s
  else if h : 0 ≤ addressedBy l disp s ∧ addressedBy l disp s < 32 then
    if sel = 1#8 ∨ sel = 2#8 then passed ⟨(addressedBy l disp s).toNat, by omega⟩
    else respond l op tag .badValue [] s
  else respond l op tag .badChannel [] s

/-! ## The block end (chapters 3, 4 and 5) -/

/-- The block is qualified (R56). -/
def Qualified (n : Near) : Prop := n.cancelling = true ∧ n.nsc = 0 ∧ 20 ≤ n.ac

/-- A good block (R56). -/
def GoodBlock (n : Near) : Prop := Qualified n ∧ 16 * n.pe ≤ n.ps

/-- A diverging block (R56). -/
def DivergingBlock (n : Near) : Prop := Qualified n ∧ 2 * n.ps < n.pe

/-- A non-good block (R56). -/
def NonGoodBlock (n : Near) : Prop := Qualified n ∧ n.ps < 16 * n.pe ∧ n.pe ≤ 2 * n.ps

/-- Divergence recovery takes place at the block end (R61). -/
def Recovers (n : Near) : Prop := n.conv ≠ .untrained ∧ DivergingBlock n ∧ 3 ≤ n.divRun + 1

/-- A direction's block is tone-like (R74). -/
def ToneLike (observed : Nat) (d : ToneDir) : Prop :=
  observed = 40 ∧ 20 ≤ d.crossings ∧ d.crossings ≤ 22 ∧ 2000000 ≤ d.power ∧
    4 * ((d.power : Int) - d.prevPower).natAbs ≤ d.prevPower

/-- What a block end does to a direction's items in every case (R74, R79), given its new run. -/
def DirectionClosed (d e : ToneDir) (run : Nat) : Prop :=
  e.last = d.last ∧ e.crossings = 0 ∧ e.power = 0 ∧ e.prevPower = d.power ∧ e.run = run

/-- The run of a direction while QUIET (R75). -/
def RunAfter (observed : Nat) (d : ToneDir) (run : Nat) : Prop :=
  (ToneLike observed d → run = if d.run < 80 then d.run + 1 else d.run) ∧
    (¬ToneLike observed d → run = 0)

/-- A path's ALC enable, the ALC option, the profile's state and the bypass mark allow the ALC (R95, 1 to 4). -/
def alcMay (f : LevelFields) (c : Channel) (held : Bool) : Bool :=
  f.alc &&
    (match c.custody with
      | .idle => false
      | .call _ o _ => o.alc
      | .test => true) && !held && !c.tone.bypassMark

/-- The cases of R97, or R100 when the ALC is not allowed; the accumulators are emptied (R93). -/
def levelClosed (f : LevelFields) (may : Bool) (k : Level) : Level :=
  let ab := k.sum / 40
  let kept : Level := { gain := k.gain, raiseRun := k.raiseRun, sum := 0, clipMark := false }
  if may = false then kept
  else if k.clipMark then { kept with gain := max (k.gain - 2) f.gMin, raiseRun := 0 }
  else if f.aHi < ab then { kept with gain := max (k.gain - 1) f.gMin, raiseRun := 0 }
  else if f.aLo ≤ ab then { kept with raiseRun := 0 }
  else if f.aSp ≤ ab then
    if k.raiseRun < 19 then { kept with raiseRun := k.raiseRun + 1 }
    else { kept with gain := min (k.gain + 1) f.gMax, raiseRun := 0 }
  else kept

/-- The record that a tone state change at a block end hands the ring (R76, R78): `c` before, `v` after it. -/
def toneRecord (c v : Channel) : Option Event :=
  if c.tone.bypassed = false ∧ v.tone.bypassed = true then
    if v.tone.trunk.run = 80 ∧ v.tone.exchange.run = 80 then some (.toneBypassOn .both)
    else if v.tone.trunk.run = 80 then some (.toneBypassOn .trunk)
    else some (.toneBypassOn .exchange)
  else if c.tone.bypassed = true ∧ v.tone.bypassed = false then some .toneBypassOff
  else none

/-- The channel's block end is taken at this event (R12). -/
def BlockDue (ch : ChannelNo) (s : State) : Prop := Running s ∧ (s.chan ch).blockDue = true

/-- The channel's frame event is taken at this event, with every bit period clocked by BCLK (R5, R11). -/
def FrameDue (ch : ChannelNo) (s : State) : Prop :=
  Running s ∧ (s.chan ch).frameDue = true ∧ s.highway.bclkStop = none

/-- The state of the profile that a channel applies (R140). -/
def heldBy (s : State) (ch : ChannelNo) : Bool := (s.profiles.get (s.chan ch).profile).held

end Sys2Proof.Claims

open Sys2Proof Sys2Proof.Machine Sys2Proof.Claims

/-! ## The step, the queue and reset -/

/-- One step runs the command at the front of the queue with the queue's rest (R206: commands are taken one after
the other, each whole). On an empty queue the part idles: the model's choice, assumption 1. -/
def Obligations.StepRunsTheFrontCommand : Prop :=
  (∀ (c : Instr) (q : List Instr) (s : State), s.pending = c :: q → step s = exec c (s.withPending q)) ∧
    ∀ s : State, s.pending = [] → step s = .next s

/-- No command changes the queue of commands that wait, the model's own field (assumption 1). -/
def Obligations.CommandsLeaveTheQueueAlone : Prop :=
  ∀ (c : Instr) (s t : State), exec c s = .next t → t.pending = s.pending

/-- Every well-formed command completes in every state: the part has no stop (R203, R208). -/
def Obligations.WellFormedCommandsComplete : Prop :=
  ∀ (c : Instr) (s : State), c.WellFormed = true → ∃ t, exec c s = .next t

/-- The state after reset satisfies every law of the device and every range that Safety states; values that no rule gives
are the model's (assumption 12). -/
def Obligations.ResetStateIsLawful : Prop :=
  State.reset.Measured ∧ State.reset.SamplesSound ∧ State.reset.CoefficientsSound ∧
    State.reset.CountsSound ∧ State.reset.LevelsSound ∧ State.reset.ReferencesUnique ∧
    State.reset.GroupsSound ∧ State.reset.ProfileZeroFixed ∧ State.reset.ClockSound ∧
    State.reset.SlotsSound ∧ State.reset.ReportsCurrent ∧ State.reset.LinesFollow ∧
    State.reset.TransmittersSound ∧ State.reset.HighwaySound

/-- R134, R197: the channel records and the ring after power-on, and the first record written; and, of R15, R43, R69,
R84, R106, R160, R177 and R199, the power-on values of the links, the highway, the clock and schedule, the profiles and
groups, and every channel's signal state. -/
def Obligations.PowerOnRecordsAndRing : Prop :=
  (∀ s : State, s.resetAsserted = true → ∃ t, exec .resetRelease s = .next t ∧ t.resetAsserted = false ∧
    t.links.c.base = 0 ∧ t.links.m.base = 0 ∧
    ∀ ch : ChannelNo,
      (t.chan ch).custody = .idle ∧ (t.chan ch).group = 0 ∧ (t.chan ch).profile = 0 ∧
        (t.chan ch).params = (t.profiles.get 0).fields ∧ (t.chan ch).params = fieldsAtPowerOn ∧
        (t.chan ch).forceBypass = false ∧ (t.chan ch).freeze = false ∧
        (t.chan ch).capturePending = false ∧ (t.chan ch).stats = ⟨0, 0, 0, 0, 0, 0, 0, 0⟩ ∧
        ∀ ref : Nat, (t.chan ch).holdsRef ref = false) ∧
  (∀ s : State, s.resetAsserted = true → ∃ t, exec .resetRelease s = .next t ∧
    (∀ i : SlotNo, t.ring.slots.get i = .device) ∧ t.ring.writePos = 0 ∧
    (∀ l : Link, t.ring.nextSeq.get l = 0 ∧ t.ring.drops.get l = 0) ∧
    (∀ ch : ChannelNo, (t.chan ch).capturePending = false) ∧
    ∀ (stamp : Stamp) (l : Link) (ch : Option ChannelNo) (p : Payload),
      (t.ring.put stamp l ch p).slots.get 0 =
        .owned l
          { dest := l, seq := 0, channel := ch, stamp := stamp, first := true, last := true,
            truncated := false, dropped := 0, payload := p }) ∧
  ∀ s : State, s.resetAsserted = true → ∃ t, exec .resetRelease s = .next t ∧
    (∀ l : Link, t.link l = restartedLink .acquiring none false) ∧
    t.highway.lock = .acquiring ∧ t.highway.goodRun = 0 ∧ t.highway.badRun = 0 ∧
    t.highway.expected = none ∧ t.highway.frame = 0 ∧
    t.clock =
      { year := 0, month := 1, day := 1, time := { hour := 0, minute := 0, second := 0 },
        weekday := 0, fis := 0, state := .unset } ∧
    (∀ i : EntryNo, t.schedule.get i =
      { inUse := false, group := 0, start := { hour := 0, minute := 0, second := 0 },
        stop := { hour := 0, minute := 0, second := 0 }, mask := 0#7, profile := 0 }) ∧
    (∀ p : ProfileNo, t.profiles.get p = { fields := fieldsAtPowerOn, held := false }) ∧
    (∀ g : GroupNo, t.groups.get g = { default := 0, scheduled := 0, stack := [], applied := 0 }) ∧
    ∀ ch : ChannelNo,
      (t.chan ch).xOut = 0 ∧ (t.chan ch).zOut = 0 ∧
        (t.chan ch).echo =
          { history := Table.replicate 1472 0, taps := Table.replicate 512 0, energy := 0, peak := 0 } ∧
        (t.chan ch).near =
          { hangover := 0, blanking := 0, ps := 0, pe := 0, nsc := 0, ac := 0,
            cancelling := (t.chan ch).near.cancelling, nlpMark := false, conv := .untrained,
            goodRun := 0, badRun := 0, divRun := 0 } ∧
        (t.chan ch).tone =
          { trunk := ⟨0, 0, 0, 0, 0⟩, exchange := ⟨0, 0, 0, 0, 0⟩, observed := 0, bypassMark := false,
            bypassed := false, quietRun := 0 } ∧
        (t.chan ch).rLevel = { gain := 0, raiseRun := 0, sum := 0, clipMark := false } ∧
        (t.chan ch).tLevel = { gain := 0, raiseRun := 0, sum := 0, clipMark := false }

/-- R199: what holds while RESET_N is asserted. No condition is pending, both lines are inactive, nothing is sent,
every output is 0, and no other command or event has any effect. The model's choice: the queue is kept, the blocks
take their power-on values at once, and a release of a RESET_N that is not asserted changes nothing (assumption 5). -/
def Obligations.ResetHoldsThePart : Prop :=
  (∀ s : State, ∃ t, exec .resetAssert s = .next t ∧ t.resetAsserted = true ∧ t.pending = s.pending ∧
    t.highway.lock = .acquiring ∧
    (∀ l : Link, (t.link l).conds = Conditions.quiet ∧ (t.link l).line = false ∧
      (t.link l).tx = none ∧ (t.link l).rx = .hunt) ∧
    ∀ ch : ChannelNo, (t.chan ch).xOut = 0 ∧ (t.chan ch).zOut = 0) ∧
  (∀ (c : Instr) (s : State), c.WellFormed = true → c ≠ .resetAssert → c ≠ .resetRelease →
    s.resetAsserted = true → exec c s = .next s) ∧
  ∀ s : State, s.resetAsserted = false → exec .resetRelease s = .next s

/-- R200, R201: the restart takes place when the last byte of the OK response has been sent, as RESPONSE_SENT or as
RESTART_INSTANT names that moment (assumption 9); any other response that ends only clears the busy mark (R205). With no
restart waiting, or nothing in transit, the two events change nothing: the model's reading (assumption 9). -/
def Obligations.RestartAwaitsItsResponse : Prop :=
  (∀ s : State, s.resetAsserted = false → s.restartPending = true →
    exec .restartInstant s = .next (restarted s) ∧
    (s.links.m.tx.isSome = true → exec (.responseSent .mLink) s = .next (restarted s))) ∧
  (∀ (l : Link) (s : State), s.resetAsserted = false → (s.link l).tx.isSome = true →
    (l = .cLink ∨ s.restartPending = false) →
    exec (.responseSent l) s = .next (s.setLink l { s.link l with tx := none, busy := false })) ∧
  (∀ s : State, s.restartPending = false → exec .restartInstant s = .next s) ∧
  ∀ (l : Link) (s : State), (s.link l).tx = none → exec (.responseSent l) s = .next s

/-! ## Highway (chapter 1) -/

/-- R4, R8: in ACQUIRING and LOST a pulse moves the good-pulse run, and 130 µs without one empty it. That the time-out
changes nothing in LOCKED is the model's reading (assumption 17). -/
def Obligations.PulsesMoveTheGoodRun : Prop :=
  (∀ s : State, s.resetAsserted = false → s.highway.lock ≠ .locked →
    (∀ bit ns : Nat, pulseRun s.highway bit ns < 8 →
      exec (.fsyncPulse bit ns) s =
        .next
          { s with
            highway :=
              { s.highway with goodRun := pulseRun s.highway bit ns, lastPulse := some ⟨bit, ns⟩ } }) ∧
    exec .pulseTimeout s = .next { s with highway := { s.highway with goodRun := 0 } }) ∧
  ∀ s : State, s.highway.lock = .locked → exec .pulseTimeout s = .next s

/-- R4, R9: the eighth good pulse opens LOCKED. In ACQUIRING there is no record, no attention condition and no channel
state but the output samples. In LOST it is restoration: each channel as `restored` says, HIGHWAY_RESTORED with the
clock as it stood, then LOCKED. The opening frame's count and owed events are the model's readings (assumptions 4, 6). -/
def Obligations.EighthPulseOpensLock : Prop :=
  (∀ (s : State) (bit ns : Nat), s.resetAsserted = false → s.highway.lock = .acquiring →
    8 ≤ pulseRun s.highway bit ns → exec (.fsyncPulse bit ns) s = .next (lockOpened bit ns s)) ∧
  ∀ (s : State) (bit ns : Nat), s.resetAsserted = false → s.highway.lock = .lost →
    8 ≤ pulseRun s.highway bit ns →
    exec (.fsyncPulse bit ns) s =
      .next
        (lockOpened bit ns
          (State.handEvent { s with channels := s.channels.map restored } none .highwayRestored))

/-- R5 to R8, R10: at a good position, and at a bad one that leaves the bad run below 3, a new frame begins; the third bad
position in a row loses lock. That a frame's owed events are dropped at the next frame, and that the frame-in-second count
moves as a frame begins, are the model's readings (assumptions 4 and 6); so is that the event changes nothing out of LOCKED
(assumption 17). That a pulse on the position at which LOST is entered is not counted in LOST's run is the model's choice
(assumption 19). -/
def Obligations.ExpectedPositionKeepsOrLosesLock : Prop :=
  (∀ (s : State) (fsync : Bool), Running s →
    (fsync = true ∧ s.highway.misplaced = false →
      exec (.expectedPosition fsync) s = .next (frameBegun 0 s)) ∧
    (¬(fsync = true ∧ s.highway.misplaced = false) → s.highway.badRun + 1 < 3 →
      exec (.expectedPosition fsync) s = .next (frameBegun (s.highway.badRun + 1) s))) ∧
  (∀ (s : State) (fsync : Bool), Running s → ¬(fsync = true ∧ s.highway.misplaced = false) →
    3 ≤ s.highway.badRun + 1 → exec (.expectedPosition fsync) s = .next (lockLost s)) ∧
  ∀ (s : State) (fsync : Bool), s.highway.lock ≠ .locked → exec (.expectedPosition fsync) s = .next s

/-- R1, R5, R6: in LOCKED a pulse off the expected position marks the interval and moves nothing else; a stopped BCLK is
marked from the bit period at which it stopped first (assumptions 7 and 8). A frame event with BCLK stopped is that of the
samples whose bits from there on are 0. That a stop of BCLK changes nothing out of LOCKED is the model's reading
(assumptions 8 and 17). -/
def Obligations.LockedPulsesAndStoppedClock : Prop :=
  (∀ s : State, Running s →
    (∀ bit ns : Nat,
      exec (.fsyncPulse bit ns) s =
        .next
          { s with
            highway :=
              { s.highway with
                lastPulse := some ⟨bit, ns⟩
                misplaced := s.highway.misplaced || decide (s.highway.expected ≠ some bit) } }) ∧
    ∀ k : Nat,
      exec (.bclkStopped k) s =
        .next
          { s with
            highway :=
              { s.highway with
                bclkStop := match s.highway.bclkStop with | some j => some j | none => some k } }) ∧
  (∀ (s : State) (ch : ChannelNo) (k : Nat) (t t' x x' : BitVec 16), s.highway.bclkStop = some k →
    (∀ i, i < 16 →
      t'.getMsbD i = (t.getMsbD i && decide (16 * ch.val + i < k)) ∧
        x'.getMsbD i = (x.getMsbD i && decide (16 * ch.val + i < k))) →
    ∃ u : State,
      exec (.frameEvent ch t' x') { s with highway := { s.highway with bclkStop := none } } = .next u ∧
      exec (.frameEvent ch t x) s = .next { u with highway := { u.highway with bclkStop := some k } }) ∧
  ∀ (s : State) (k : Nat), s.highway.lock ≠ .locked → exec (.bclkStopped k) s = .next s

/-! ## Samples (chapters 1 to 5) -/

/-- R14: an IDLE channel passes t to XHO and s to THO in the next frame, and only its history, P, Xpk and blanking
count move. That a frame event out of LOCKED, or one that the frame does not owe the channel, changes nothing is the model's
reading of R8 and R11 (assumption 4), for channels of every custody. -/
def Obligations.IdleChannelPassesSamples : Prop :=
  (∀ (s : State) (ch : ChannelNo) (t x : BitVec 16), FrameDue ch s → (s.chan ch).custody = .idle →
    ∃ e : Echo, e.taps = (s.chan ch).echo.taps ∧
      (∀ k, k < 1472 →
        sampleAt e k = if k = 0 then t.toInt else sampleAt (s.chan ch).echo (k - 1)) ∧
      e.energy = windowEnergy (s.chan ch).params e ∧ e.peak = windowPeak (s.chan ch).params e ∧
      exec (.frameEvent ch t x) s =
        .next
          (s.setChan ch
            { s.chan ch with
              echo := e
              near := { (s.chan ch).near with blanking := (s.chan ch).near.blanking - 1 }
              xNext := t.toInt
              zNext := x.toInt
              frameDue := false
              blockDue := decide (s.highway.frame % 40 = 39) })) ∧
  ∀ (s : State) (ch : ChannelNo) (t x : BitVec 16),
    s.highway.lock ≠ .locked ∨ (s.chan ch).frameDue = false → exec (.frameEvent ch t x) s = .next s

/-- R16, R19, R20, R27, R30 to R33, R65, R66, R86, R87: in CALL and TEST the gained t enters the history, P and Xpk
follow, and the residual, suppressed or not, leaves through the T-path gain. -/
def Obligations.SampleFollowsTheStages : Prop :=
  (∀ (s : State) (ch : ChannelNo) (t x : BitVec 16), FrameDue ch s → (s.chan ch).custody ≠ .idle →
    (s.chan ch).params.valid = true →
    ∃ u, exec (.frameEvent ch t x) s = .next u ∧
      (u.chan ch).xNext = newX (s.chan ch) t.toInt ∧
      (∀ k, k < 1472 → sampleAt (u.chan ch).echo k = pastX (s.chan ch) t.toInt k) ∧
      (u.chan ch).echo.energy = newEnergy (s.chan ch) t.toInt ∧
      (u.chan ch).echo.peak = newPeak (s.chan ch) t.toInt) ∧
  ∀ (s : State) (ch : ChannelNo) (t x : BitVec 16), FrameDue ch s → (s.chan ch).custody ≠ .idle →
    (s.chan ch).params.valid = true →
    ∃ u, exec (.frameEvent ch t x) s = .next u ∧
      (u.chan ch).zNext =
        gained (s.chan ch).tLevel.gain (newU (s.chan ch) (heldBy s ch) t.toInt x.toInt) ∧
      (u.chan ch).stats.clipsR =
        counted 65535 (clips (s.chan ch).rLevel.gain t.toInt) (s.chan ch).stats.clipsR ∧
      (u.chan ch).stats.clipsT =
        counted 65535
          (clips (s.chan ch).tLevel.gain (newU (s.chan ch) (heldBy s ch) t.toInt x.toInt))
          (s.chan ch).stats.clipsT

/-- R34 to R39, R51 to R53: the taps move only in an allowed sample, by the clamped step; one SATURATIONS count for a
sample that clamps a tap. -/
def Obligations.AdaptationMovesTheTaps : Prop :=
  ∀ (s : State) (ch : ChannelNo) (t x : BitVec 16), FrameDue ch s → (s.chan ch).custody ≠ .idle →
    (s.chan ch).params.valid = true →
    ∃ u, exec (.frameEvent ch t x) s = .next u ∧
      (u.chan ch).near.conv = newConv (s.chan ch) (heldBy s ch) t.toInt x.toInt ∧
      (allowed (s.chan ch) (heldBy s ch) t.toInt x.toInt = false →
        (u.chan ch).echo.taps = (s.chan ch).echo.taps ∧
        (u.chan ch).stats.saturations = (s.chan ch).stats.saturations) ∧
      (allowed (s.chan ch) (heldBy s ch) t.toInt x.toInt = true →
        (∀ k, k < (s.chan ch).params.window →
          tapAt (u.chan ch).echo k = adaptedTap (s.chan ch) (heldBy s ch) t.toInt x.toInt k) ∧
        (∀ k, (s.chan ch).params.window ≤ k → tapAt (u.chan ch).echo k = tapAt (s.chan ch).echo k) ∧
        (u.chan ch).stats.saturations =
          counted 65535
            (decide
              (∃ k, k < (s.chan ch).params.window ∧
                (rawTap (s.chan ch) (heldBy s ch) t.toInt x.toInt k < -4194304 ∨
                  4194303 < rawTap (s.chan ch) (heldBy s ch) t.toInt x.toInt k)))
            (s.chan ch).stats.saturations)

/-- R46, R47, R50, R54, R67, R73, R87, R92: what one sample of CALL or TEST adds to the near-speech unit, the tone
detector and the level units, and that it leaves the rest of the channel and of the part alone. -/
def Obligations.SampleFillsTheAccumulators : Prop :=
  ∀ (s : State) (ch : ChannelNo) (t x : BitVec 16), FrameDue ch s → (s.chan ch).custody ≠ .idle →
    (s.chan ch).params.valid = true →
    ∃ u, exec (.frameEvent ch t x) s = .next u ∧ OnlyChannel ch s u ∧ u.ring = s.ring ∧
      u.links = s.links ∧
      let c := s.chan ch
      let held := heldBy s ch
      let e := newE c t.toInt x.toInt
      u.chan ch =
        { c with
          stats := (u.chan ch).stats, echo := (u.chan ch).echo
          near :=
            { c.near with
              hangover := newHangover c t.toInt x.toInt
              blanking := c.near.blanking - 1
              ps := c.near.ps + x.toInt.natAbs ^ 2
              pe := c.near.pe + e.natAbs ^ 2
              nsc := c.near.nsc + if nearNow c t.toInt x.toInt then 1 else 0
              ac := c.near.ac + if allowed c held t.toInt x.toInt then 1 else 0
              cancelling := cancels c
              nlpMark := c.near.nlpMark || suppressed c held t.toInt x.toInt
              conv := (u.chan ch).near.conv }
          tone :=
            { c.tone with
              trunk :=
                { c.tone.trunk with
                  last := t.toInt
                  crossings :=
                    c.tone.trunk.crossings + if (c.tone.trunk.last < 0 ↔ t.toInt < 0) then 0 else 1
                  power := c.tone.trunk.power + t.toInt.natAbs ^ 2 }
              exchange :=
                { c.tone.exchange with
                  last := x.toInt
                  crossings :=
                    c.tone.exchange.crossings +
                      if (c.tone.exchange.last < 0 ↔ x.toInt < 0) then 0 else 1
                  power := c.tone.exchange.power + x.toInt.natAbs ^ 2 }
              observed := c.tone.observed + 1
              bypassMark := c.tone.bypassMark || c.tone.bypassed }
          rLevel :=
            { c.rLevel with
              sum := c.rLevel.sum + (newX c t.toInt).natAbs
              clipMark := c.rLevel.clipMark || clips c.rLevel.gain t.toInt }
          tLevel :=
            { c.tLevel with
              sum := c.tLevel.sum + (u.chan ch).zNext.natAbs
              clipMark :=
                c.tLevel.clipMark || clips c.tLevel.gain (newU c held t.toInt x.toInt) }
          xNext := (u.chan ch).xNext
          zNext := (u.chan ch).zNext
          frameDue := false
          blockDue := decide (s.highway.frame % 40 = 39) } ∧
      (u.chan ch).stats =
        { c.stats with
          saturations := (u.chan ch).stats.saturations, clipsR := (u.chan ch).stats.clipsR,
          clipsT := (u.chan ch).stats.clipsT }

/-- R85: each M[i] is 16384·10^(i/20) rounded to a whole number, as twentieth powers say it without roots. -/
def Obligations.GainTableRoundsTheVoltageRatio : Prop :=
  ∀ i : Fin 13,
    (2 * multiplier i.val - 1) ^ 20 < 32768 ^ 20 * 10 ^ i.val ∧
      32768 ^ 20 * 10 ^ i.val < (2 * multiplier i.val + 1) ^ 20 ∧
      (2 * multiplier (-(i.val : Int)) - 1) ^ 20 * 10 ^ i.val < 32768 ^ 20 ∧
      32768 ^ 20 < (2 * multiplier (-(i.val : Int)) + 1) ^ 20 * 10 ^ i.val

/-! ## Block ends (chapters 1, 3, 4, 5 and 9) -/

/-- R12, R55, R79, R93, R189: the block end of an IDLE channel takes a pending capture and empties the accumulators;
nothing is judged. That a block end out of LOCKED, or one that is not owed the channel, changes nothing is the model's
reading of R8 and R12 (assumption 4), for channels of every custody. -/
def Obligations.IdleBlockEndEmptiesTheBlock : Prop :=
  (∀ (s : State) (ch : ChannelNo), BlockDue ch s → (s.chan ch).custody = .idle →
    exec (.blockEnd ch) s =
      .next
        ((if (s.chan ch).capturePending then s.withRing (s.ring.putCapture s.stamp ch (s.chan ch))
          else s).setChan ch
          { s.chan ch with
            near :=
              { (s.chan ch).near with ps := 0, pe := 0, nsc := 0, ac := 0, nlpMark := false }
            tone :=
              { (s.chan ch).tone with
                trunk := { (s.chan ch).tone.trunk with crossings := 0, power := 0 }
                exchange := { (s.chan ch).tone.exchange with crossings := 0, power := 0 }
                observed := 0
                bypassMark := false }
            rLevel := { (s.chan ch).rLevel with sum := 0, clipMark := false }
            tLevel := { (s.chan ch).tLevel with sum := 0, clipMark := false }
            capturePending := false
            blockDue := false })) ∧
  ∀ (s : State) (ch : ChannelNo), s.highway.lock ≠ .locked ∨ (s.chan ch).blockDue = false →
    exec (.blockEnd ch) s = .next s

/-- R56, R57, R59 to R62: classification, the convergence state and its runs, GOOD_BLOCKS, NEAR_BLOCKS, DIVERGENCES and
the clear of a divergence recovery. -/
def Obligations.BlockEndMovesConvergence : Prop :=
  ∀ (s : State) (ch : ChannelNo), BlockDue ch s → (s.chan ch).custody ≠ .idle →
    ∃ u, exec (.blockEnd ch) s = .next u ∧
      let n := (s.chan ch).near
      let v := (u.chan ch).near
      v.ps = 0 ∧ v.pe = 0 ∧ v.nsc = 0 ∧ v.ac = 0 ∧ v.nlpMark = false ∧ v.hangover = n.hangover ∧
      v.blanking = n.blanking ∧
      (u.chan ch).stats.nearBlocks = counted 65535 (decide (0 < n.nsc)) (s.chan ch).stats.nearBlocks ∧
      (GoodBlock n →
        (u.chan ch).stats.goodBlocks = counted 65535 true (s.chan ch).stats.goodBlocks) ∧
      (¬GoodBlock n → (u.chan ch).stats.goodBlocks = (s.chan ch).stats.goodBlocks) ∧
      (¬Qualified n ∨ n.conv = .untrained →
        v.conv = n.conv ∧ v.goodRun = n.goodRun ∧ v.badRun = n.badRun ∧ v.divRun = n.divRun) ∧
      (n.conv = .converging → GoodBlock n → v.divRun = 0 ∧
        if n.goodRun + 1 < 8 then
          v.conv = .converging ∧ v.goodRun = n.goodRun + 1 ∧ v.badRun = n.badRun
        else v.conv = .converged ∧ v.goodRun = 0 ∧ v.badRun = 0) ∧
      (n.conv = .converging → NonGoodBlock n →
        v.conv = .converging ∧ v.goodRun = 0 ∧ v.badRun = n.badRun ∧ v.divRun = 0) ∧
      (n.conv = .converged → GoodBlock n →
        v.conv = .converged ∧ v.goodRun = n.goodRun ∧ v.badRun = 0 ∧ v.divRun = 0) ∧
      (n.conv = .converged → (NonGoodBlock n ∨ DivergingBlock n) → ¬Recovers n →
        (NonGoodBlock n → v.divRun = 0) ∧ (DivergingBlock n → v.divRun = n.divRun + 1) ∧
        if n.badRun + 1 < 4 then
          v.conv = .converged ∧ v.goodRun = n.goodRun ∧ v.badRun = n.badRun + 1
        else v.conv = .converging ∧ v.goodRun = 0 ∧ v.badRun = 0) ∧
      (n.conv = .converging → DivergingBlock n → ¬Recovers n →
        v.conv = .converging ∧ v.goodRun = 0 ∧ v.badRun = n.badRun ∧ v.divRun = n.divRun + 1) ∧
      (Recovers n →
        v.conv = .untrained ∧ v.goodRun = 0 ∧ v.badRun = 0 ∧ v.divRun = 0 ∧
        (u.chan ch).echo = { (s.chan ch).echo with taps := Table.replicate 512 0 } ∧
        (u.chan ch).stats.divergences = counted 255 true (s.chan ch).stats.divergences) ∧
      (¬Recovers n →
        (u.chan ch).echo = (s.chan ch).echo ∧
        (u.chan ch).stats.divergences = (s.chan ch).stats.divergences)

/-- R74 to R79: the tone judgement of a block. -/
def Obligations.BlockEndJudgesTheTone : Prop :=
  ∀ (s : State) (ch : ChannelNo), BlockDue ch s → (s.chan ch).custody ≠ .idle →
    ∃ u, exec (.blockEnd ch) s = .next u ∧
      let k := (s.chan ch).tone
      let v := (u.chan ch).tone
      v.observed = 0 ∧ v.bypassMark = false ∧
      DirectionClosed k.trunk v.trunk v.trunk.run ∧
      DirectionClosed k.exchange v.exchange v.exchange.run ∧
      (k.bypassed = false →
        RunAfter k.observed k.trunk v.trunk.run ∧ RunAfter k.observed k.exchange v.exchange.run ∧
        (v.bypassed = true ↔
          (s.chan ch).params.toneEnable = true ∧ (v.trunk.run = 80 ∨ v.exchange.run = 80)) ∧
        v.quietRun = (if v.bypassed then 0 else k.quietRun) ∧
        (u.chan ch).stats.toneEntries = counted 255 v.bypassed (s.chan ch).stats.toneEntries) ∧
      (k.bypassed = true →
        (u.chan ch).stats.toneEntries = (s.chan ch).stats.toneEntries ∧
        if k.trunk.power < 200000 ∧ k.exchange.power < 200000 then
          if k.quietRun + 1 < 50 then
            v.bypassed = true ∧ v.quietRun = k.quietRun + 1 ∧ v.trunk.run = k.trunk.run ∧
              v.exchange.run = k.exchange.run
          else v.bypassed = false ∧ v.quietRun = 0 ∧ v.trunk.run = 0 ∧ v.exchange.run = 0
        else
          v.bypassed = true ∧ v.quietRun = 0 ∧ v.trunk.run = k.trunk.run ∧
            v.exchange.run = k.exchange.run)

/-- R93 to R100: the block ALC of both paths. -/
def Obligations.BlockEndSetsTheLevels : Prop :=
  ∀ (s : State) (ch : ChannelNo), BlockDue ch s → (s.chan ch).custody ≠ .idle →
    ∃ u, exec (.blockEnd ch) s = .next u ∧
      (u.chan ch).rLevel =
        levelClosed (s.chan ch).params.rPath
          (alcMay (s.chan ch).params.rPath (s.chan ch) (heldBy s ch)) (s.chan ch).rLevel ∧
      (u.chan ch).tLevel =
        levelClosed (s.chan ch).params.tPath
          (alcMay (s.chan ch).params.tPath (s.chan ch) (heldBy s ch) && !(s.chan ch).near.nlpMark)
          (s.chan ch).tLevel

/-- R189, and the frame of a block end in CALL or TEST: the capture first, then DIVERGED, then the tone record; the
items that no block end moves stay. -/
def Obligations.BlockEndHandsItsRecordsInOrder : Prop :=
  ∀ (s : State) (ch : ChannelNo), BlockDue ch s → (s.chan ch).custody ≠ .idle →
    ∃ (u : State) (r1 r2 : Ring), exec (.blockEnd ch) s = .next u ∧ OnlyChannel ch s u ∧
      LinksReported s u ∧
      r1 = (if (s.chan ch).capturePending then s.ring.putCapture s.stamp ch (s.chan ch) else s.ring) ∧
      (Recovers (s.chan ch).near →
        r2 = r1.put s.stamp .mLink (some ch) (.event (.diverged (u.chan ch).stats.divergences))) ∧
      (¬Recovers (s.chan ch).near → r2 = r1) ∧
      u.ring =
        (match toneRecord (s.chan ch) (u.chan ch) with
          | some e => r2.put s.stamp .mLink (some ch) (.event e)
          | none => r2) ∧
      u.chan ch =
        { s.chan ch with
          stats :=
            { (s.chan ch).stats with
              goodBlocks := (u.chan ch).stats.goodBlocks, nearBlocks := (u.chan ch).stats.nearBlocks,
              toneEntries := (u.chan ch).stats.toneEntries,
              divergences := (u.chan ch).stats.divergences }
          echo := (u.chan ch).echo, near := (u.chan ch).near, tone := (u.chan ch).tone,
          rLevel := (u.chan ch).rLevel, tLevel := (u.chan ch).tLevel, capturePending := false,
          blockDue := false } ∧
      (u.chan ch).near.cancelling = (s.chan ch).near.cancelling

/-! ## The record ring (chapter 9) -/

/-- R186: a single-slot record is written at the write position when that slot is device-owned, and dropped and counted
otherwise; nothing but the ring and the report of it moves, in either case. -/
def Obligations.HandOverWritesOrDrops : Prop :=
  ∀ (s : State) (l : Link) (ch : Option ChannelNo) (p : Payload),
    (s.ring.slots.get s.ring.writePos = .device →
      (s.hand l ch p).ring =
        { slots :=
            s.ring.slots.set s.ring.writePos
              (.owned l
                { dest := l, seq := s.ring.nextSeq.get l, channel := ch,
                  stamp := { time := s.clock.time, fis := s.clock.fis }, first := true, last := true,
                  truncated := false, dropped := s.ring.drops.get l, payload := p })
          writePos := s.ring.writePos + 1
          nextSeq := s.ring.nextSeq.set l ((s.ring.nextSeq.get l + 1) % 65536)
          drops := s.ring.drops.set l 0 }) ∧
    (s.ring.slots.get s.ring.writePos ≠ .device →
      (s.hand l ch p).ring =
        { s.ring with
          drops :=
            s.ring.drops.set l
              (if s.ring.drops.get l < 255 then s.ring.drops.get l + 1 else s.ring.drops.get l) }) ∧
    LinksReported s (s.hand l ch p) ∧
    s.hand l ch p = { s with ring := (s.hand l ch p).ring, links := (s.hand l ch p).links }

/-- R190: a capture of n = W/64 slots goes whole into n device-owned slots from the write position, truncated into
fewer, and is dropped when there is none; `c` counts the consecutive device-owned slots. With W at most 512 each slot
holds 64 taps (11.4). -/
def Obligations.CaptureIsWholeTruncatedOrDropped : Prop :=
  ∀ (r : Ring) (stamp : Stamp) (ch : ChannelNo) (k : Channel) (c n w : Nat),
    n = k.params.window / 64 → 1 ≤ n → c ≤ 64 → w = min n c →
    (∀ j, j < c → r.slots.get (r.slotFrom j) = .device) →
    (c = 64 ∨ r.slots.get (r.slotFrom c) ≠ .device) →
    let r' := r.putCapture stamp ch k
    (n ≤ 8 → ∀ j, j < w → ((k.echo.taps.data.drop (64 * j)).take 64).length = 64) ∧
    (c = 0 →
      r' = { r with drops := { r.drops with m := if r.drops.m < 255 then r.drops.m + 1 else r.drops.m } }) ∧
    (0 < c →
      r'.writePos = r.slotFrom w ∧
      r'.nextSeq = { r.nextSeq with m := (r.nextSeq.m + 1) % 65536 } ∧
      r'.drops = { r.drops with m := 0 } ∧
      (∀ j, j < w →
        r'.slots.get (r.slotFrom j) =
          .owned .mLink
            { dest := .mLink, seq := r.nextSeq.m, channel := some ch, stamp := stamp
              first := decide (j = 0)
              last := decide (j + 1 = w)
              truncated := decide (j + 1 = w ∧ c < n)
              dropped := if j = 0 then r.drops.m else 0
              payload :=
                .capture
                  { profile := k.profile, bulkDelay := k.params.bulkDelay, window := k.params.window,
                    firstTap := 64 * j, taps := (k.echo.taps.data.drop (64 * j)).take 64 } }) ∧
      ∀ j, w ≤ j → j < 64 → r'.slots.get (r.slotFrom j) = r.slots.get (r.slotFrom j))

/-! ## Second ticks (chapters 6, 7 and 8) -/

/-- R163, R164, R130: the clock advances by one second with its carries, and DURATION counts in CALL and TEST. That a
second tick out of LOCKED, or one that no frame has raised, changes nothing is the model's reading of R8 and R13
(assumption 4). -/
def Obligations.SecondTickAdvancesTheClock : Prop :=
  (∀ s : State, Running s → s.tickDue = true → ∃ u, exec .secondTick s = .next u ∧ u.tickDue = false ∧
    (let k := s.clock
      let minuteOver := k.time.second + 1 > 59
      let hourOver := minuteOver ∧ k.time.minute + 1 > 59
      let midnight := hourOver ∧ k.time.hour + 1 > 23
      let monthOver := midnight ∧ k.day + 1 > (monthLength k.year k.month)
      let yearOver := monthOver ∧ k.month + 1 > 12
      u.clock =
        { state := k.state
          fis := 0
          time :=
            { second := if minuteOver then 0 else k.time.second + 1
              minute := if hourOver then 0 else if minuteOver then k.time.minute + 1 else k.time.minute
              hour := if midnight then 0 else if hourOver then k.time.hour + 1 else k.time.hour }
          weekday :=
            if midnight then (if k.weekday + 1 > 6 then 0 else k.weekday + 1) else k.weekday
          day := if monthOver then 1 else if midnight then k.day + 1 else k.day
          month := if yearOver then 1 else if monthOver then k.month + 1 else k.month
          year := if yearOver then (if k.year + 1 > 99 then 0 else k.year + 1) else k.year }) ∧
    (∀ year month, 1 ≤ month → month ≤ 12 → monthLength year month = daysOf year month) ∧
    ∀ ch : ChannelNo,
      (u.chan ch).stats =
        { (s.chan ch).stats with
          duration := counted 65535 (inUse (s.chan ch)) (s.chan ch).stats.duration }) ∧
  ∀ s : State, s.highway.lock ≠ .locked ∨ s.tickDue = false → exec .secondTick s = .next s

/-- R154, R175, R151, R187: at the tick each group's scheduled profile becomes the one the schedule selects at the
advanced time; where its applied profile changes, its channels apply it, and one PROFILE_SWITCHED record is handed; the
records of several groups are handed in some order, whatever it is (assumption 3). -/
def Obligations.SecondTickEvaluatesTheSchedule : Prop :=
  ∀ s : State, Running s → s.tickDue = true → ∃ (u : State) (order : List GroupNo),
    exec .secondTick s = .next u ∧
    (∀ g : GroupNo, ∃ p : ProfileNo, Scheduled s u.clock g p ∧
      u.groups.get g =
        { s.groups.get g with
          scheduled := p, applied := topOr (s.groups.get g).stack p }) ∧
    (∀ ch : ChannelNo,
      let c := { s.chan ch with stats := (u.chan ch).stats }
      let now := (u.groups.get c.group).applied
      u.chan ch =
        if now = (s.groups.get c.group).applied then c else applied now (s.profiles.get now).fields c) ∧
    order.Nodup ∧
    (∀ g, g ∈ order ↔ (u.groups.get g).applied ≠ (s.groups.get g).applied) ∧
    u.ring =
      order.foldl
        (fun r g =>
          r.put { time := u.clock.time, fis := u.clock.fis } .mLink none
            (.event
              (.profileSwitched g (s.groups.get g).applied (u.groups.get g).applied .schedule)))
        s.ring ∧
    LinksReported s u ∧ u.highway = s.highway ∧ u.schedule = s.schedule ∧ u.profiles = s.profiles ∧
    u.resetAsserted = s.resetAsserted ∧ u.restartPending = s.restartPending ∧ u.pending = s.pending

/-- R174: when an entry matches. -/
def Obligations.EntryMatchesInItsWindow : Prop :=
  ∀ (e : Entry) (t : TimeOfDay) (w : Nat), e.matchesAt t w = true ↔ Matches e t w

/-! ## Link receivers and frames (chapters 10 and 11) -/

/-- R202, R203: how the receiver moves at a byte and at 2 ms of silence, a complete frame apart. -/
def Obligations.ReceiverMoves : Prop :=
  ∀ (s : State) (l : Link) (b : Byte), s.resetAsserted = false →
    ((s.link l).rx = .hunt → exec (.receiveByte l b) s = .next s) ∧
    ((s.link l).rx = .settle →
      exec (.receiveByte l b) s = .next (raised l .badStart (received l .hunt s))) ∧
    ((s.link l).rx = .ready →
      exec (.receiveByte l b) s =
        .next
          (if b = 0xC5#8 then received l (.receiving [b]) s
          else raised l .badStart (received l .hunt s))) ∧
    (∀ b0, (s.link l).rx = .receiving [b0] →
      exec (.receiveByte l b) s =
        .next
          (if 2 ≤ b.toNat ∧ b.toNat ≤ 60 then received l (.receiving [b0, b]) s
          else raised l .badLength (received l .hunt s))) ∧
    (∀ b0 len rest, (s.link l).rx = .receiving (b0 :: len :: rest) →
      rest.length + 3 < len.toNat + 4 →
      exec (.receiveByte l b) s = .next (received l (.receiving (b0 :: len :: rest ++ [b])) s)) ∧
    ((s.link l).rx = .hunt ∨ (s.link l).rx = .settle ∨ (s.link l).rx = .ready →
      exec (.gapTimerExpiry l) s = .next (received l .ready s)) ∧
    ∀ bytes, (s.link l).rx = .receiving bytes →
      exec (.gapTimerExpiry l) s = .next (raised l .timeout (received l .ready s))

/-- R204, R205, R206: the byte that completes a frame. On a busy link the frame is an OVERRUN; otherwise it is
BAD_CHECK when its two check bytes are not the register's value, and the command it names when they are. -/
def Obligations.CompleteFrameIsJudged : Prop :=
  ∀ (s : State) (l : Link) (b0 len code tag hi lo : Byte) (ps : List Byte), s.resetAsserted = false →
    (s.link l).rx = .receiving (b0 :: len :: code :: tag :: ps ++ [hi]) → len.toNat = ps.length + 2 →
    ((s.link l).busy = true →
      exec (.receiveByte l lo) s = .next (raised l .overrun (received l .settle s))) ∧
    ((s.link l).busy = false → hi ++ lo ≠ crc (len :: code :: tag :: ps) →
      exec (.receiveByte l lo) s = .next (raised l .badCheck (received l .settle s))) ∧
    ((s.link l).busy = false → hi ++ lo = crc (len :: code :: tag :: ps) →
      exec (.receiveByte l lo) s = exec (commandOf l code tag ps) (received l .settle s))

/-- The bytes of a well-formed command's frame, arriving one by one on a READY link that is not busy, do exactly what
the command does, with the receiver in SETTLE. -/
def Obligations.FrameOnTheWireRunsItsCommand : Prop :=
  ∀ (i : Instr) (l : Link) (bytes : List Byte) (s : State), i.WellFormed = true →
    encodeFrame i = some (l, bytes) → s.resetAsserted = false → (s.link l).rx = .ready →
    (s.link l).busy = false → arrive l bytes s = exec i (received l .settle s)

/-- The frame of a well-formed command decodes to that command, with every parameter byte. -/
def Obligations.FramesDecodeToTheirCommand : Prop :=
  ∀ i : Instr, i.WellFormed = true → i.command ≠ none →
    ∃ l bytes, encodeFrame i = some (l, bytes) ∧ decodeFrame l bytes = some i

/-- R205, R208, R209, 11.2: each CODE of the catalogue names its command, and no other CODE names one. OVERRUN on a busy
link; UNKNOWN_COMMAND, NOT_PERMITTED and BAD_LENGTH in their order, with the permissions and parameter counts of the
catalogue: SEIZE, CLEAR and MODIFY CALL on the C-link alone, the fifteen commands of `onlyOnM` on the M-link alone, the
others on both. Each response carries the result alone and nothing else changes. A command row stands for its frame
completing (assumption 2). -/
def Obligations.CommandsAreCheckedInOrder : Prop :=
  (∀ op : Opcode, ∃ row ∈ catalogue, row.op = op) ∧
  (∀ row ∈ catalogue, row.op.code = row.code ∧
    ∀ (l : Link) (tag : Byte) (ps : List Byte),
      commandOf l row.code tag ps = row.op.instr l tag ps ∧
      ∀ s : State, s.resetAsserted = false →
        ((s.link l).busy = true → exec (row.op.instr l tag ps) s = .next (raised l .overrun s)) ∧
        ((s.link l).busy = false → row.onLink l = none →
          exec (row.op.instr l tag ps) s = .next (respond l row.op tag .notPermitted [] s)) ∧
        ∀ n, (s.link l).busy = false → row.onLink l = some n → ps.length ≠ n →
          exec (row.op.instr l tag ps) s = .next (respond l row.op tag .badLength [] s)) ∧
  ∀ (l : Link) (tag : Byte) (ps : List Byte) (code : Byte), (∀ row ∈ catalogue, row.code ≠ code) →
    commandOf l code tag ps = .unknownCommand l code tag ps ∧
    ∀ s : State, s.resetAsserted = false →
      ((s.link l).busy = true → exec (.unknownCommand l code tag ps) s = .next (raised l .overrun s)) ∧
      ((s.link l).busy = false →
        exec (.unknownCommand l code tag ps) s =
          .next
            (s.setLink l
              { s.link l with tx := some (responseFrame code tag .unknownCommand []), busy := true }))

/-- R206, R207, R208, R220: every taken command is answered with its CODE and TAG, and one that is not answered OK or
ACCEPTED changes nothing else and carries no data. A response is start, LEN, CODE, TAG, RESULT, the data, and the check of
the bytes from LEN on, high byte first. -/
def Obligations.RefusedCommandsChangeNothing : Prop :=
  (∀ (code tag : Byte) (r : Result) (data : List Byte), ∃ hi lo : Byte,
    responseFrame code tag r data =
        [0xC5#8, low (3 + data.length), code, tag, resultByte r] ++ data ++ [hi, lo] ∧
      hi ++ lo = crc (low (3 + data.length) :: code :: tag :: resultByte r :: data)) ∧
  ∀ (op : Opcode) (l : Link) (tag : Byte) (ps : List Byte) (s : State), Free l s →
    ∃ (t : State) (r : Result) (data : List Byte),
      exec (op.instr l tag ps) s = .next (respond l op tag r data t) ∧
      (r = .ok ∨ r = .accepted ∨ (t = s ∧ data = []))

/-- R210, R213: the condition under which a link's line is driven. -/
def Obligations.LineFollowsAdmittedConditions : Prop :=
  ∀ (l : Link) (mask : Fin 7) (c : Conditions), c.drives l mask = true ↔ lineOf l mask c

/-- R214 to R218: READ ATTENTION lists every pending condition in priority order, then clears what it may. -/
def Obligations.ReadAttentionListsAndClears : Prop :=
  ∀ (l : Link) (tag : Byte) (s : State), Free l s →
    exec (.readAttention l tag []) s =
      .next
        (respond l .readAttention tag .ok
          (byteOf
              (attentionEntries l (s.link l).mask s.highway.lock s.clock.state (s.link l).conds).length ::
            (attentionEntries l (s.link l).mask s.highway.lock s.clock.state (s.link l).conds).flatten)
          (s.modifyConds l (attentionCleared l (s.link l).mask s.highway.lock)))

/-- R212, R200: SET ATTENTION MASK sets the mask, and the line follows; DEVICE RESTART is answered OK, and only the wait
for its restart begins. -/
def Obligations.MaskAndRestartCommands : Prop :=
  (∀ (l : Link) (tag b : Byte) (s : State), Free l s →
    (6 < b.toNat →
      exec (.setAttentionMask l tag [b]) s = .next (respond l .setAttentionMask tag .badValue [] s)) ∧
    ∀ mask : Fin 7, b.toNat = mask.val → ∃ line : Bool,
      (line = true ↔ lineOf l mask (s.link l).conds) ∧
      exec (.setAttentionMask l tag [b]) s =
        .next
          (respond l .setAttentionMask tag .ok []
            (s.setLink l { s.link l with mask := mask, line := line }))) ∧
  ∀ (tag : Byte) (s : State), Free .mLink s →
    exec (.deviceRestart .mLink tag []) s =
      .next (respond .mLink .deviceRestart tag .ok [] { s with restartPending := true })

/-! ## Calls, tests and channels (chapter 6) -/

/-- R110, R111: SEIZE, checks in their order. -/
def Obligations.SeizeEntersCallOrIsRefused : Prop :=
  ∀ (tag b r1 r0 o : Byte) (s : State), Free .cLink s →
    exec (.seize .cLink tag [b, r1, r0, o]) s =
      .next
        (if h : b.toNat < 32 then
          if num r1 r0 = 0 ∨ 8 ≤ o.toNat then respond .cLink .seize tag .badValue [] s
          else
            match (s.chan ⟨b.toNat, h⟩).custody with
            | .call _ _ _ => respond .cLink .seize tag .inCall [] s
            | .test => respond .cLink .seize tag .inTest [] s
            | .idle =>
              if ∃ k : ChannelNo, (s.chan k).holdsRef (num r1 r0) = true then
                respond .cLink .seize tag .duplicateCall [] s
              else
                respond .cLink .seize tag .ok []
                  (s.setChan ⟨b.toNat, h⟩
                    { started (s.chan ⟨b.toNat, h⟩) with
                      custody := .call (num r1 r0) (optionsOf o) false })
        else respond .cLink .seize tag .badChannel [] s)

/-- R112, R117, R132: CLEAR and FORCE RELEASE, checks in their order; after FORCE RELEASE, CUSTODY_NOTICE gains the
channel. -/
def Obligations.CallsEndWithTheirSummary : Prop :=
  (∀ (tag b r1 r0 : Byte) (s : State), Free .cLink s →
    exec (.clear .cLink tag [b, r1, r0]) s =
      .next
        (if h : b.toNat < 32 then
          if num r1 r0 = 0 then respond .cLink .clear tag .badValue [] s
          else
            match (s.chan ⟨b.toNat, h⟩).custody with
            | .idle => respond .cLink .clear tag .wrongState [] s
            | .test => respond .cLink .clear tag .wrongState [] s
            | .call ref _ blocked =>
              if ref = num r1 r0 then
                respond .cLink .clear tag .ok [] (callEnded ⟨b.toNat, h⟩ .cleared ref blocked s)
              else respond .cLink .clear tag .callMismatch [] s
        else respond .cLink .clear tag .badChannel [] s)) ∧
  ∀ (tag b : Byte) (s : State), Free .mLink s →
    exec (.forceRelease .mLink tag [b]) s =
      .next
        (if h : b.toNat < 32 then
          match (s.chan ⟨b.toNat, h⟩).custody with
          | .idle => respond .mLink .forceRelease tag .wrongState [] s
          | .test => respond .mLink .forceRelease tag .wrongState [] s
          | .call ref _ blocked =>
            respond .mLink .forceRelease tag .ok []
              ((callEnded ⟨b.toNat, h⟩ .forced ref blocked s).modifyConds .cLink fun k =>
                { k with custodyNotice := k.custodyNotice ||| (1#32 <<< b.toNat) })
        else respond .mLink .forceRelease tag .badChannel [] s)

/-- R114: MODIFY CALL, checks in their order; only the options change. -/
def Obligations.ModifyCallSetsTheOptions : Prop :=
  ∀ (tag b r1 r0 o : Byte) (s : State), Free .cLink s →
    exec (.modifyCall .cLink tag [b, r1, r0, o]) s =
      .next
        (if h : b.toNat < 32 then
          if num r1 r0 = 0 ∨ 8 ≤ o.toNat then respond .cLink .modifyCall tag .badValue [] s
          else
            match (s.chan ⟨b.toNat, h⟩).custody with
            | .idle => respond .cLink .modifyCall tag .wrongState [] s
            | .test => respond .cLink .modifyCall tag .wrongState [] s
            | .call ref _ blocked =>
              if ref = num r1 r0 then
                respond .cLink .modifyCall tag .ok []
                  (s.setChan ⟨b.toNat, h⟩
                    { s.chan ⟨b.toNat, h⟩ with custody := .call ref (optionsOf o) blocked })
              else respond .cLink .modifyCall tag .callMismatch [] s
        else respond .cLink .modifyCall tag .badChannel [] s)

/-- R115, R116, R132: BLOCK begins a test or waits for the call to end; UNBLOCK ends a test with its summary, or cancels a
pending block. -/
def Obligations.BlockAndUnblock : Prop :=
  (∀ (tag b : Byte) (s : State), Free .mLink s →
    exec (.block .mLink tag [b]) s =
      .next
        (if h : b.toNat < 32 then
          match (s.chan ⟨b.toNat, h⟩).custody with
          | .idle =>
            respond .mLink .block tag .ok []
              (s.setChan ⟨b.toNat, h⟩ { started (s.chan ⟨b.toNat, h⟩) with custody := .test })
          | .call ref o false =>
            respond .mLink .block tag .accepted []
              (s.setChan ⟨b.toNat, h⟩ { s.chan ⟨b.toNat, h⟩ with custody := .call ref o true })
          | .call _ _ true => respond .mLink .block tag .wrongState [] s
          | .test => respond .mLink .block tag .wrongState [] s
        else respond .mLink .block tag .badChannel [] s)) ∧
  ∀ (tag b : Byte) (s : State), Free .mLink s →
    exec (.unblock .mLink tag [b]) s =
      .next
        (if h : b.toNat < 32 then
          match (s.chan ⟨b.toNat, h⟩).custody with
          | .idle => respond .mLink .unblock tag .wrongState [] s
          | .call ref o true =>
            respond .mLink .unblock tag .ok []
              (s.setChan ⟨b.toNat, h⟩ { s.chan ⟨b.toNat, h⟩ with custody := .call ref o false })
          | .call _ _ false => respond .mLink .unblock tag .wrongState [] s
          | .test =>
            respond .mLink .unblock tag .ok []
              ((s.hand .mLink (some ⟨b.toNat, h⟩)
                    (.summary (summaryOf (s.chan ⟨b.toNat, h⟩) none .testEnded))).setChan
                ⟨b.toNat, h⟩ { s.chan ⟨b.toNat, h⟩ with custody := .idle })
        else respond .mLink .unblock tag .badChannel [] s)

/-- R121, R122: RESTART CHANNEL in the form of each link. -/
def Obligations.RestartChannelClearsTheSignal : Prop :=
  (∀ (tag b r1 r0 : Byte) (s : State), Free .cLink s →
    exec (.restartChannel .cLink tag [b, r1, r0]) s =
      .next
        (if h : b.toNat < 32 then
          if num r1 r0 = 0 then respond .cLink .restartChannel tag .badValue [] s
          else
            match (s.chan ⟨b.toNat, h⟩).custody with
            | .idle => respond .cLink .restartChannel tag .wrongState [] s
            | .test => respond .cLink .restartChannel tag .wrongState [] s
            | .call ref _ _ =>
              if ref = num r1 r0 then
                respond .cLink .restartChannel tag .ok []
                  (s.setChan ⟨b.toNat, h⟩ (freshSignal (s.chan ⟨b.toNat, h⟩)))
              else respond .cLink .restartChannel tag .callMismatch [] s
        else respond .cLink .restartChannel tag .badChannel [] s)) ∧
  ∀ (tag b : Byte) (s : State), Free .mLink s →
    exec (.restartChannel .mLink tag [b]) s =
      .next
        (if h : b.toNat < 32 then
          if (s.chan ⟨b.toNat, h⟩).custody = .idle then
            respond .mLink .restartChannel tag .wrongState [] s
          else
            respond .mLink .restartChannel tag .ok []
              (s.setChan ⟨b.toNat, h⟩ (freshSignal (s.chan ⟨b.toNat, h⟩)))
        else respond .mLink .restartChannel tag .badChannel [] s)

/-- R123, R145 to R147: ASSIGN CHANNEL moves the channel to the group and applies the group's applied profile as it
stands. -/
def Obligations.AssignAppliesTheGroupsProfile : Prop :=
  ∀ (tag b g : Byte) (s : State), Free .mLink s →
    exec (.assignChannel .mLink tag [b, g]) s =
      .next
        (if h : b.toNat < 32 then
          if hg : g.toNat < 8 then
            match (s.chan ⟨b.toNat, h⟩).custody with
            | .call _ _ _ => respond .mLink .assignChannel tag .inCall [] s
            | _ =>
              respond .mLink .assignChannel tag .ok []
                (s.setChan ⟨b.toNat, h⟩
                  (applied (s.groups.get ⟨g.toNat, hg⟩).applied
                    (s.profiles.get (s.groups.get ⟨g.toNat, hg⟩).applied).fields
                    { s.chan ⟨b.toNat, h⟩ with group := ⟨g.toNat, hg⟩ }))
          else respond .mLink .assignChannel tag .badValue [] s
        else respond .mLink .assignChannel tag .badChannel [] s)

/-- R124, R141, R155, R168, R173, R192, R219 to R222: the reads of a channel, a profile, a group, the clock, an entry and a
slot answer OK with the bytes of 11.3 and 11.4, offset by offset, and change nothing. They are 29, 35, 9, 10 and 10 bytes; a
record is 34 bytes for a summary, 17 for an event and 211 for a capture slot of 64 taps, each tap in 24-bit two's
complement. -/
def Obligations.ReadsAnswerAndChangeNothing : Prop :=
  ((∀ c : Channel, (channelData c).length = 29) ∧ (∀ p : Profile, (profileData p).length = 35) ∧
    (∀ (g : Group) (held : Bool), (groupData g held).length = 9) ∧
    (∀ k : Clock, (clockData k).length = 10) ∧ (∀ e : Entry, (entryData e).length = 10) ∧
    (∀ r : Record,
      match r.payload with
      | .summary _ => (recordData r).length = 34
      | .event _ => (recordData r).length = 17
      | .capture c => c.taps.length = 64 → (recordData r).length = 211) ∧
    ∀ h : Int, -4194304 ≤ h → h ≤ 4194303 → ∃ b2 b1 b0 : Byte, tapData h = [b2, b1, b0] ∧
      (65536 * b2.toNat + 256 * b1.toNat + b0.toNat : Int) = if h < 0 then h + 16777216 else h) ∧
  ∀ (l : Link) (tag b : Byte) (s : State), Free l s →
    exec (.readChannel l tag [b]) s =
      .next
        (if h : b.toNat < 32 then
          respond l .readChannel tag .ok (channelData (s.chan ⟨b.toNat, h⟩)) s
        else respond l .readChannel tag .badChannel [] s) ∧
    exec (.readProfile l tag [b]) s =
      .next
        (if h : b.toNat < 16 then
          respond l .readProfile tag .ok (profileData (s.profiles.get ⟨b.toNat, h⟩)) s
        else respond l .readProfile tag .badValue [] s) ∧
    exec (.readGroup l tag [b]) s =
      .next
        (if h : b.toNat < 8 then
          respond l .readGroup tag .ok
            (groupData (s.groups.get ⟨b.toNat, h⟩)
              (s.profiles.get (s.groups.get ⟨b.toNat, h⟩).applied).held) s
        else respond l .readGroup tag .badValue [] s) ∧
    exec (.timeRead l tag []) s = .next (respond l .timeRead tag .ok (clockData s.clock) s) ∧
    exec (.readEntry l tag [b]) s =
      .next
        (if h : b.toNat < 24 then
          respond l .readEntry tag .ok (entryData (s.schedule.get ⟨b.toNat, h⟩)) s
        else respond l .readEntry tag .badValue [] s) ∧
    exec (.readSlot l tag [b]) s =
      .next
        (if h : b.toNat < 64 then
          match s.ring.slots.get ⟨b.toNat, h⟩ with
          | .owned owner r =>
            if owner = l then respond l .readSlot tag .ok (recordData r) s
            else respond l .readSlot tag .notOwner [] s
          | .device => respond l .readSlot tag .notOwner [] s
        else respond l .readSlot tag .badValue [] s)

/-- R126: SET BASE sets its own link's base channel alone; both bases are 0 after power-on and after DEVICE RESTART, which
RESTART_INSTANT and the end of its response bring about (assumption 9). -/
def Obligations.SetBaseSetsTheLinksBase : Prop :=
  (∀ (l : Link) (tag b : Byte) (s : State), Free l s →
    exec (.setBase l tag [b]) s =
      .next
        (if h : b.toNat < 32 then
          respond l .setBase tag .ok [] (s.setLink l { s.link l with base := ⟨b.toNat, h⟩ })
        else respond l .setBase tag .badChannel [] s)) ∧
  (∀ s : State, s.resetAsserted = true → ∃ u, exec .resetRelease s = .next u ∧
    ∀ l : Link, (u.link l).base = 0) ∧
  ∀ s : State, s.resetAsserted = false → s.restartPending = true →
    (∃ u, exec .restartInstant s = .next u ∧ ∀ l : Link, (u.link l).base = 0) ∧
    (s.links.m.tx.isSome = true →
      ∃ u, exec (.responseSent .mLink) s = .next u ∧ ∀ l : Link, (u.link l).base = 0)

/-- R127: FLAG SET, FLAG CLEAR and FLAG TEST. -/
def Obligations.FlagCommandsAddressByBase : Prop :=
  ∀ (l : Link) (tag disp sel : Byte) (s : State), Free l s →
    exec (.flagSet l tag [disp, sel]) s =
      .next
        (flagChecked l .flagSet tag disp sel s fun ch =>
          respond l .flagSet tag .ok [] (s.setChan ch (withFlagSet sel true (s.chan ch)))) ∧
    exec (.flagClear l tag [disp, sel]) s =
      .next
        (flagChecked l .flagClear tag disp sel s fun ch =>
          respond l .flagClear tag .ok [] (s.setChan ch (withFlagSet sel false (s.chan ch)))) ∧
    exec (.flagTest l tag [disp, sel]) s =
      .next
        (flagChecked l .flagTest tag disp sel s fun ch =>
          respond l .flagTest tag .ok [if flagOf sel (s.chan ch) then 1#8 else 0#8] s)

/-- R128, R129: FIELD WRITE and FIELD READ over a run of channels, checks in their order. -/
def Obligations.FieldCommandsCoverARun : Prop :=
  ∀ (l : Link) (tag disp n sel v1 v0 : Byte) (s : State), Free l s →
    ((disp.toInt < -16 ∨ 15 < disp.toInt ∨ n.toNat = 0 ∨ 16 < n.toNat) →
      exec (.fieldWrite l tag [disp, n, sel, v1, v0]) s =
          .next (respond l .fieldWrite tag .badValue [] s) ∧
        exec (.fieldRead l tag [disp, n, sel]) s = .next (respond l .fieldRead tag .badValue [] s)) ∧
    (-16 ≤ disp.toInt → disp.toInt ≤ 15 → 1 ≤ n.toNat → n.toNat ≤ 16 →
      (addressedBy l disp s < 0 ∨ 32 < addressedBy l disp s + n.toNat →
        exec (.fieldWrite l tag [disp, n, sel, v1, v0]) s =
            .next (respond l .fieldWrite tag .badChannel [] s) ∧
          exec (.fieldRead l tag [disp, n, sel]) s =
            .next (respond l .fieldRead tag .badChannel [] s)) ∧
      ∀ first : Nat, addressedBy l disp s = first → first + n.toNat ≤ 32 →
        (sel ≠ 1#8 ∧ sel ≠ 2#8 →
          exec (.fieldWrite l tag [disp, n, sel, v1, v0]) s =
              .next (respond l .fieldWrite tag .badValue [] s) ∧
            exec (.fieldRead l tag [disp, n, sel]) s =
              .next (respond l .fieldRead tag .badValue [] s)) ∧
        (sel = 1#8 ∨ sel = 2#8 →
          exec (.fieldWrite l tag [disp, n, sel, v1, v0]) s =
            .next
              (if num v1 v0 < 2 ^ n.toNat then
                respond l .fieldWrite tag .ok []
                  { s with
                    channels :=
                      s.channels.mapIdx fun i c =>
                        if first ≤ i ∧ i < first + n.toNat then
                          withFlagSet sel ((num v1 v0).testBit (i - first)) c
                        else c }
              else respond l .fieldWrite tag .badValue [] s) ∧
          ∃ v : Nat, v < 65536 ∧
            (∀ k, v.testBit k = true ↔
              k < n.toNat ∧ ∃ ch : ChannelNo, ch.val = first + k ∧ flagOf sel (s.chan ch) = true) ∧
            exec (.fieldRead l tag [disp, n, sel]) s =
              .next (respond l .fieldRead tag .ok [byteOf (v / 256), byteOf v] s)))

/-- R188: REQUEST CAPTURE sets the mark of a channel in CALL or TEST. -/
def Obligations.RequestCaptureSetsTheMark : Prop :=
  ∀ (tag b : Byte) (s : State), Free .mLink s →
    exec (.requestCapture .mLink tag [b]) s =
      .next
        (if h : b.toNat < 32 then
          if (s.chan ⟨b.toNat, h⟩).custody = .idle ∨ (s.chan ⟨b.toNat, h⟩).capturePending = true then
            respond .mLink .requestCapture tag .wrongState [] s
          else
            respond .mLink .requestCapture tag .accepted []
              (s.setChan ⟨b.toNat, h⟩ { s.chan ⟨b.toNat, h⟩ with capturePending := true })
        else respond .mLink .requestCapture tag .badChannel [] s)

/-! ## Profiles and groups (chapter 7) -/

/-- R137, R139, R144: HOLD PROFILE and RESUME PROFILE; a resume applies the profile to every channel of its number. -/
def Obligations.HoldAndResumeProfile : Prop :=
  ∀ (tag b : Byte) (s : State), Free .mLink s →
    exec (.holdProfile .mLink tag [b]) s =
      .next
        (if h : b.toNat < 16 then
          if b = 0#8 then respond .mLink .holdProfile tag .badValue [] s
          else if (s.profiles.get ⟨b.toNat, h⟩).held then
            respond .mLink .holdProfile tag .wrongState [] s
          else
            respond .mLink .holdProfile tag .ok []
              { s with
                profiles :=
                  s.profiles.set ⟨b.toNat, h⟩ { s.profiles.get ⟨b.toNat, h⟩ with held := true } }
        else respond .mLink .holdProfile tag .badValue [] s) ∧
    exec (.resumeProfile .mLink tag [b]) s =
      .next
        (if h : b.toNat < 16 then
          if (s.profiles.get ⟨b.toNat, h⟩).held then
            respond .mLink .resumeProfile tag .ok []
              { s with
                profiles :=
                  s.profiles.set ⟨b.toNat, h⟩ { s.profiles.get ⟨b.toNat, h⟩ with held := false }
                channels :=
                  s.channels.map fun c =>
                    if c.profile = ⟨b.toNat, h⟩ then
                      applied ⟨b.toNat, h⟩ (s.profiles.get ⟨b.toNat, h⟩).fields c
                    else c }
          else respond .mLink .resumeProfile tag .wrongState [] s
        else respond .mLink .resumeProfile tag .badValue [] s)

/-- R136, R138, R142, R143, R219: WRITE PROFILE replaces every field of a HELD profile, for every set of fields within the
ranges and relations of R142, at the offsets of 11.3; NOT_HELD when OPEN; BAD_VALUE, before the state is looked at, for bytes
that spell no such set or for a number out of range or 0. The model's check of a set is exactly those ranges. -/
def Obligations.WriteProfileReplacesEveryField : Prop :=
  (∀ q : ParamSet, (q.valid = true ↔ InRange q) ∧ (fieldData q).length = 34) ∧
  ∀ (tag b : Byte) (s : State), Free .mLink s →
    (∀ (n : ProfileNo) (q : ParamSet), b.toNat = n.val → n ≠ 0 → InRange q →
      exec (.writeProfile .mLink tag (b :: fieldData q)) s =
        .next
          (if (s.profiles.get n).held then
            respond .mLink .writeProfile tag .ok []
              { s with profiles := s.profiles.set n { fields := q, held := true } }
          else respond .mLink .writeProfile tag .notHeld [] s)) ∧
    ∀ bytes : List Byte, bytes.length = 34 →
      (b.toNat = 0 ∨ 16 ≤ b.toNat ∨ ∀ q : ParamSet, InRange q → fieldData q ≠ bytes) →
      exec (.writeProfile .mLink tag (b :: bytes)) s =
        .next (respond .mLink .writeProfile tag .badValue [] s)

/-- R150: WRITE GROUP changes the default profile alone. -/
def Obligations.WriteGroupSetsTheDefault : Prop :=
  ∀ (tag g p : Byte) (s : State), Free .mLink s →
    exec (.writeGroup .mLink tag [g, p]) s =
      .next
        (if h : g.toNat < 8 ∧ p.toNat < 16 then
          respond .mLink .writeGroup tag .ok []
            { s with
              groups :=
                s.groups.set ⟨g.toNat, h.1⟩
                  { s.groups.get ⟨g.toNat, h.1⟩ with default := ⟨p.toNat, h.2⟩ } }
        else respond .mLink .writeGroup tag .badValue [] s)

/-- R151, R152, R153: OVERRIDE PUSH and OVERRIDE POP. -/
def Obligations.OverridePushAndPop : Prop :=
  (∀ (tag g p : Byte) (s : State), Free .mLink s →
    exec (.overridePush .mLink tag [g, p]) s =
      .next
        (if h : g.toNat < 8 ∧ p.toNat < 16 then
          if 4 ≤ (s.groups.get ⟨g.toNat, h.1⟩).stack.length then
            respond .mLink .overridePush tag .stackFull [] s
          else
            respond .mLink .overridePush tag .ok []
              (restacked ⟨g.toNat, h.1⟩
                ((s.groups.get ⟨g.toNat, h.1⟩).stack ++ [⟨p.toNat, h.2⟩]) s)
        else respond .mLink .overridePush tag .badValue [] s)) ∧
  ∀ (tag g : Byte) (s : State), Free .mLink s →
    exec (.overridePop .mLink tag [g]) s =
      .next
        (if h : g.toNat < 8 then
          if (s.groups.get ⟨g.toNat, h⟩).stack = [] then
            respond .mLink .overridePop tag .stackEmpty [] s
          else
            respond .mLink .overridePop tag .ok []
              (restacked ⟨g.toNat, h⟩ (s.groups.get ⟨g.toNat, h⟩).stack.dropLast s)
        else respond .mLink .overridePop tag .badValue [] s)

/-! ## Clock and schedule (chapter 8) -/

/-- R166, R167, R217: TIME SET. -/
def Obligations.TimeSetLoadsAValidTime : Prop :=
  ∀ (tag y mo d h mi sec w : Byte) (s : State), Free .mLink s →
    exec (.timeSet .mLink tag [y, mo, d, h, mi, sec, w]) s =
      .next
        (if y.toNat ≤ 99 ∧ 1 ≤ mo.toNat ∧ mo.toNat ≤ 12 ∧ 1 ≤ d.toNat ∧
            d.toNat ≤ daysOf y.toNat mo.toNat ∧ h.toNat ≤ 23 ∧ mi.toNat ≤ 59 ∧ sec.toNat ≤ 59 ∧
            w.toNat ≤ 6 then
          respond .mLink .timeSet tag .ok []
            (State.modifyConds
              { s with
                clock :=
                  { year := y.toNat, month := mo.toNat, day := d.toNat,
                    time := { hour := h.toNat, minute := mi.toNat, second := sec.toNat },
                    weekday := w.toNat, fis := 0, state := .set }
                tickDue := false }
              .mLink fun k => { k with clockAlert := false })
        else respond .mLink .timeSet tag .badTime [] s)

/-- R172, R173: WRITE ENTRY replaces every field and sets the in-use mark; ERASE ENTRY clears that mark alone. -/
def Obligations.EntriesAreWrittenAndErased : Prop :=
  ∀ (tag i g sh sm ss eh em es mask p : Byte) (s : State), Free .mLink s →
    exec (.writeEntry .mLink tag [i, g, sh, sm, ss, eh, em, es, mask, p]) s =
      .next
        (if h : i.toNat < 24 ∧ g.toNat < 8 ∧ p.toNat < 16 ∧ mask.toNat < 128 ∧ sh.toNat ≤ 23 ∧
            sm.toNat ≤ 59 ∧ ss.toNat ≤ 59 ∧ eh.toNat ≤ 23 ∧ em.toNat ≤ 59 ∧ es.toNat ≤ 59 then
          respond .mLink .writeEntry tag .ok []
            { s with
              schedule :=
                s.schedule.set ⟨i.toNat, h.1⟩
                  { inUse := true
                    group := ⟨g.toNat, h.2.1⟩
                    start := { hour := sh.toNat, minute := sm.toNat, second := ss.toNat }
                    stop := { hour := eh.toNat, minute := em.toNat, second := es.toNat }
                    mask := BitVec.ofNat 7 mask.toNat
                    profile := ⟨p.toNat, h.2.2.1⟩ } }
        else respond .mLink .writeEntry tag .badValue [] s) ∧
    exec (.eraseEntry .mLink tag [i]) s =
      .next
        (if h : i.toNat < 24 then
          respond .mLink .eraseEntry tag .ok []
            { s with
              schedule :=
                s.schedule.set ⟨i.toNat, h⟩ { s.schedule.get ⟨i.toNat, h⟩ with inUse := false } }
        else respond .mLink .eraseEntry tag .badValue [] s)

/-- R193: RETURN SLOT gives a slot of the sending link back to DEVICE, and both links are told. -/
def Obligations.ReturnSlotFreesTheSlot : Prop :=
  ∀ (l : Link) (tag b : Byte) (s : State), Free l s →
    exec (.returnSlot l tag [b]) s =
      .next
        (if h : b.toNat < 64 then
          match s.ring.slots.get ⟨b.toNat, h⟩ with
          | .owned owner _ =>
            if owner = l then
              respond l .returnSlot tag .ok []
                (s.withRing { s.ring with slots := s.ring.slots.set ⟨b.toNat, h⟩ .device })
            else respond l .returnSlot tag .notOwner [] s
          | .device => respond l .returnSlot tag .notOwner [] s
        else respond l .returnSlot tag .badValue [] s)

/-! ## What every step keeps -/

/-- R19: P and Xpk are those of the window, on every channel, at all times. -/
def Obligations.StepKeepsWindowMeasures : Prop :=
  ∀ s t : State, s.Measured → step s = .next t → t.Measured

/-- R1, R16, R21, R22, R52: samples and taps stay in range; beyond W the taps of a channel in use are 0; an UNTRAINED
channel has every tap 0. -/
def Obligations.StepKeepsSamplesAndCoefficients : Prop :=
  ∀ s t : State, s.SamplesSound ∧ s.CoefficientsSound → step s = .next t →
    t.SamplesSound ∧ t.CoefficientsSound

/-- R90, R131, R136: statistics and runs stay below their limits; profiles and applied parameter sets stay valid, and gain
indices within their bounds. -/
def Obligations.StepKeepsCountsAndLevels : Prop :=
  (∀ s t : State, s.CountsSound → step s = .next t → t.CountsSound) ∧
  ∀ s t : State, s.LevelsSound → step s = .next t → t.LevelsSound

/-- R107, R109: call references stay in 1..65535, and no two channels in CALL hold the same one. -/
def Obligations.StepKeepsReferencesUnique : Prop :=
  ∀ s t : State, s.ReferencesUnique → step s = .next t → t.ReferencesUnique

/-- R137, R149, R151, R161: stacks, applied profiles and profile 0 obey their laws; the clock stays a valid date and time.
That a tick is owed only while the frame-in-second count stands at 7999 is no rule of the manual: it rests on the model's
readings that the count stays at 7999 until the tick is taken (assumptions 4 and 6). -/
def Obligations.StepKeepsGroupsAndClock : Prop :=
  (∀ s t : State, s.GroupsSound ∧ s.ProfileZeroFixed → step s = .next t →
    t.GroupsSound ∧ t.ProfileZeroFixed) ∧
  ∀ s t : State, s.ClockSound → step s = .next t → t.ClockSound

/-- R178, R194, R200, R205, R213, R218: a link's slot holds a record for that link; the report of owned slots is current;
each line follows its conditions and its mask; a link is busy exactly while its response is in transit, and a restart
waits only for one. -/
def Obligations.StepKeepsLinksAndRing : Prop :=
  (∀ s t : State, s.SlotsSound → step s = .next t → t.SlotsSound) ∧
  (∀ s t : State, s.ReportsCurrent ∧ s.LinesFollow → step s = .next t →
    t.ReportsCurrent ∧ t.LinesFollow) ∧
  ∀ s t : State, s.TransmittersSound → step s = .next t → t.TransmittersSound

/-- R2, R3, R4, R5, R8, R10: out of LOCKED both outputs of every channel are 0 and no event is owed; what a frame owes is
held in the model's own marks (assumption 4). -/
def Obligations.StepKeepsTheHighwaySilentOutOfLock : Prop :=
  ∀ s t : State, s.HighwaySound → step s = .next t → t.HighwaySound
end

