-- ==== Sys2Proof/Laws/Table.lean ====
section
/-! SUPPORT. Reading a table after building it, and a pair of per-link values after setting it. -/

namespace Sys2Proof

variable {α β : Type} {n : Nat}

/-- Two tables with equal entries are equal. -/
theorem Table.ext_get {t u : Table α n} (h : ∀ i, t.get i = u.get i) : t = u := by
  cases t with
  | mk a ha =>
    cases u with
    | mk b hb =>
      have : a = b := by
        apply List.ext_getElem (by rw [ha, hb])
        intro i h1 h2
        exact h ⟨i, by omega⟩
      subst this
      rfl

@[simp] theorem Table.get_set_self (t : Table α n) (i : Fin n) (a : α) : (t.set i a).get i = a := by
  simp [Table.get, Table.set]

theorem Table.get_set_ne (t : Table α n) {i j : Fin n} (a : α) (h : i ≠ j) :
    (t.set i a).get j = t.get j := by
  have : i.val ≠ j.val := fun e => h (Fin.ext e)
  simp [Table.get, Table.set, this]

/-- Reading after a write: the value written at its place, the old value elsewhere. -/
theorem Table.get_set (t : Table α n) (i j : Fin n) (a : α) :
    (t.set i a).get j = if i = j then a else t.get j := by
  by_cases h : i = j
  · subst h; simp
  · simp [h, Table.get_set_ne]

@[simp] theorem Table.get_map (f : α → β) (t : Table α n) (i : Fin n) : (t.map f).get i = f (t.get i) := by
  simp [Table.get, Table.map]

@[simp] theorem Table.get_mapIdx (f : Nat → α → β) (t : Table α n) (i : Fin n) :
    (t.mapIdx f).get i = f i.val (t.get i) := by
  simp [Table.get, Table.mapIdx]

@[simp] theorem Table.get_replicate (a : α) (i : Fin n) : (Table.replicate n a).get i = a := by
  simp [Table.get, Table.replicate]

/-- Writing back what stands there changes nothing. -/
@[simp] theorem Table.set_get_self (t : Table α n) (i : Fin n) : t.set i (t.get i) = t := by
  apply Table.ext_get
  intro j
  by_cases h : i = j
  · subst h; simp
  · simp [Table.get_set_ne _ _ h]

/-- The last of two writes at one place stands. -/
@[simp] theorem Table.set_set (t : Table α n) (i : Fin n) (a b : α) : (t.set i a).set i b = t.set i b := by
  simp [Table.set]

/-- Two maps are one. -/
theorem Table.map_map {γ : Type} (t : Table α n) (f : α → β) (g : β → γ) :
    (t.map f).map g = t.map fun a => g (f a) := by
  apply Table.ext_get
  simp

/-- An entry of a table is a member of its list. -/
theorem Table.get_mem (t : Table α n) (i : Fin n) : t.get i ∈ t.data := List.getElem_mem _

/-- A member of a table's list is some entry. -/
theorem Table.mem_data {t : Table α n} {a : α} (h : a ∈ t.data) : ∃ i, t.get i = a := by
  obtain ⟨k, hk, e⟩ := List.getElem_of_mem h
  exact ⟨⟨k, by rw [t.size] at hk; exact hk⟩, e⟩

namespace Machine

@[simp] theorem PerLink.get_set_self (p : PerLink α) (l : Link) (a : α) : (p.set l a).get l = a := by
  cases l <;> rfl

theorem PerLink.get_set_ne (p : PerLink α) {l k : Link} (a : α) (h : l ≠ k) :
    (p.set l a).get k = p.get k := by
  cases l <;> cases k <;> first | rfl | exact absurd rfl h

theorem PerLink.get_set (p : PerLink α) (l k : Link) (a : α) :
    (p.set l a).get k = if l = k then a else p.get k := by
  cases l <;> cases k <;> rfl

/-- The last of two writes for one link stands. -/
@[simp] theorem PerLink.set_set (p : PerLink α) (l : Link) (a b : α) :
    (p.set l a).set l b = p.set l b := by
  cases l <;> rfl

@[simp] theorem PerLink.set_get_self (p : PerLink α) (l : Link) : p.set l (p.get l) = p := by
  cases l <;> rfl

end Machine

end Sys2Proof
end

