-- ==== Sys2Proof/Laws/State.lean ====
section
/-! SUPPORT. One lemma for each field and each update of State: what the update leaves there. -/

namespace Sys2Proof.Machine

variable (s : State)

/-! ### setChan -/

@[simp] theorem State.setChan_resetAsserted (ch : ChannelNo) (c : Channel) :
    (s.setChan ch c).resetAsserted = s.resetAsserted := rfl
@[simp] theorem State.setChan_highway (ch : ChannelNo) (c : Channel) :
    (s.setChan ch c).highway = s.highway := rfl
@[simp] theorem State.setChan_clock (ch : ChannelNo) (c : Channel) :
    (s.setChan ch c).clock = s.clock := rfl
@[simp] theorem State.setChan_tickDue (ch : ChannelNo) (c : Channel) :
    (s.setChan ch c).tickDue = s.tickDue := rfl
@[simp] theorem State.setChan_schedule (ch : ChannelNo) (c : Channel) :
    (s.setChan ch c).schedule = s.schedule := rfl
@[simp] theorem State.setChan_channels (ch : ChannelNo) (c : Channel) :
    (s.setChan ch c).channels = s.channels.set ch c := rfl
@[simp] theorem State.setChan_profiles (ch : ChannelNo) (c : Channel) :
    (s.setChan ch c).profiles = s.profiles := rfl
@[simp] theorem State.setChan_groups (ch : ChannelNo) (c : Channel) :
    (s.setChan ch c).groups = s.groups := rfl
@[simp] theorem State.setChan_ring (ch : ChannelNo) (c : Channel) :
    (s.setChan ch c).ring = s.ring := rfl
@[simp] theorem State.setChan_links (ch : ChannelNo) (c : Channel) :
    (s.setChan ch c).links = s.links := rfl
@[simp] theorem State.setChan_restartPending (ch : ChannelNo) (c : Channel) :
    (s.setChan ch c).restartPending = s.restartPending := rfl
@[simp] theorem State.setChan_freeDraws (ch : ChannelNo) (c : Channel) :
    (s.setChan ch c).freeDraws = s.freeDraws := rfl
@[simp] theorem State.setChan_pending (ch : ChannelNo) (c : Channel) :
    (s.setChan ch c).pending = s.pending := rfl

/-! ### mapChans -/

@[simp] theorem State.mapChans_resetAsserted (f : Channel → Channel) :
    (s.mapChans f).resetAsserted = s.resetAsserted := rfl
@[simp] theorem State.mapChans_highway (f : Channel → Channel) :
    (s.mapChans f).highway = s.highway := rfl
@[simp] theorem State.mapChans_clock (f : Channel → Channel) :
    (s.mapChans f).clock = s.clock := rfl
@[simp] theorem State.mapChans_tickDue (f : Channel → Channel) :
    (s.mapChans f).tickDue = s.tickDue := rfl
@[simp] theorem State.mapChans_schedule (f : Channel → Channel) :
    (s.mapChans f).schedule = s.schedule := rfl
@[simp] theorem State.mapChans_channels (f : Channel → Channel) :
    (s.mapChans f).channels = s.channels.map f := rfl
@[simp] theorem State.mapChans_profiles (f : Channel → Channel) :
    (s.mapChans f).profiles = s.profiles := rfl
@[simp] theorem State.mapChans_groups (f : Channel → Channel) :
    (s.mapChans f).groups = s.groups := rfl
@[simp] theorem State.mapChans_ring (f : Channel → Channel) :
    (s.mapChans f).ring = s.ring := rfl
@[simp] theorem State.mapChans_links (f : Channel → Channel) :
    (s.mapChans f).links = s.links := rfl
@[simp] theorem State.mapChans_restartPending (f : Channel → Channel) :
    (s.mapChans f).restartPending = s.restartPending := rfl
@[simp] theorem State.mapChans_freeDraws (f : Channel → Channel) :
    (s.mapChans f).freeDraws = s.freeDraws := rfl
@[simp] theorem State.mapChans_pending (f : Channel → Channel) :
    (s.mapChans f).pending = s.pending := rfl

/-! ### setLink -/

@[simp] theorem State.setLink_resetAsserted (l : Link) (k : LinkCtl) :
    (s.setLink l k).resetAsserted = s.resetAsserted := rfl
@[simp] theorem State.setLink_highway (l : Link) (k : LinkCtl) :
    (s.setLink l k).highway = s.highway := rfl
@[simp] theorem State.setLink_clock (l : Link) (k : LinkCtl) :
    (s.setLink l k).clock = s.clock := rfl
@[simp] theorem State.setLink_tickDue (l : Link) (k : LinkCtl) :
    (s.setLink l k).tickDue = s.tickDue := rfl
@[simp] theorem State.setLink_schedule (l : Link) (k : LinkCtl) :
    (s.setLink l k).schedule = s.schedule := rfl
@[simp] theorem State.setLink_channels (l : Link) (k : LinkCtl) :
    (s.setLink l k).channels = s.channels := rfl
@[simp] theorem State.setLink_profiles (l : Link) (k : LinkCtl) :
    (s.setLink l k).profiles = s.profiles := rfl
@[simp] theorem State.setLink_groups (l : Link) (k : LinkCtl) :
    (s.setLink l k).groups = s.groups := rfl
@[simp] theorem State.setLink_ring (l : Link) (k : LinkCtl) :
    (s.setLink l k).ring = s.ring := rfl
@[simp] theorem State.setLink_links (l : Link) (k : LinkCtl) :
    (s.setLink l k).links = s.links.set l k := rfl
@[simp] theorem State.setLink_restartPending (l : Link) (k : LinkCtl) :
    (s.setLink l k).restartPending = s.restartPending := rfl
@[simp] theorem State.setLink_freeDraws (l : Link) (k : LinkCtl) :
    (s.setLink l k).freeDraws = s.freeDraws := rfl
@[simp] theorem State.setLink_pending (l : Link) (k : LinkCtl) :
    (s.setLink l k).pending = s.pending := rfl

/-! ### setGroup -/

@[simp] theorem State.setGroup_resetAsserted (g : GroupNo) (v : Group) :
    (s.setGroup g v).resetAsserted = s.resetAsserted := rfl
@[simp] theorem State.setGroup_highway (g : GroupNo) (v : Group) :
    (s.setGroup g v).highway = s.highway := rfl
@[simp] theorem State.setGroup_clock (g : GroupNo) (v : Group) :
    (s.setGroup g v).clock = s.clock := rfl
@[simp] theorem State.setGroup_tickDue (g : GroupNo) (v : Group) :
    (s.setGroup g v).tickDue = s.tickDue := rfl
@[simp] theorem State.setGroup_schedule (g : GroupNo) (v : Group) :
    (s.setGroup g v).schedule = s.schedule := rfl
@[simp] theorem State.setGroup_channels (g : GroupNo) (v : Group) :
    (s.setGroup g v).channels = s.channels := rfl
@[simp] theorem State.setGroup_profiles (g : GroupNo) (v : Group) :
    (s.setGroup g v).profiles = s.profiles := rfl
@[simp] theorem State.setGroup_groups (g : GroupNo) (v : Group) :
    (s.setGroup g v).groups = s.groups.set g v := rfl
@[simp] theorem State.setGroup_ring (g : GroupNo) (v : Group) :
    (s.setGroup g v).ring = s.ring := rfl
@[simp] theorem State.setGroup_links (g : GroupNo) (v : Group) :
    (s.setGroup g v).links = s.links := rfl
@[simp] theorem State.setGroup_restartPending (g : GroupNo) (v : Group) :
    (s.setGroup g v).restartPending = s.restartPending := rfl
@[simp] theorem State.setGroup_freeDraws (g : GroupNo) (v : Group) :
    (s.setGroup g v).freeDraws = s.freeDraws := rfl
@[simp] theorem State.setGroup_pending (g : GroupNo) (v : Group) :
    (s.setGroup g v).pending = s.pending := rfl

/-! ### setProfile -/

@[simp] theorem State.setProfile_resetAsserted (p : ProfileNo) (v : Profile) :
    (s.setProfile p v).resetAsserted = s.resetAsserted := rfl
@[simp] theorem State.setProfile_highway (p : ProfileNo) (v : Profile) :
    (s.setProfile p v).highway = s.highway := rfl
@[simp] theorem State.setProfile_clock (p : ProfileNo) (v : Profile) :
    (s.setProfile p v).clock = s.clock := rfl
@[simp] theorem State.setProfile_tickDue (p : ProfileNo) (v : Profile) :
    (s.setProfile p v).tickDue = s.tickDue := rfl
@[simp] theorem State.setProfile_schedule (p : ProfileNo) (v : Profile) :
    (s.setProfile p v).schedule = s.schedule := rfl
@[simp] theorem State.setProfile_channels (p : ProfileNo) (v : Profile) :
    (s.setProfile p v).channels = s.channels := rfl
@[simp] theorem State.setProfile_profiles (p : ProfileNo) (v : Profile) :
    (s.setProfile p v).profiles = s.profiles.set p v := rfl
@[simp] theorem State.setProfile_groups (p : ProfileNo) (v : Profile) :
    (s.setProfile p v).groups = s.groups := rfl
@[simp] theorem State.setProfile_ring (p : ProfileNo) (v : Profile) :
    (s.setProfile p v).ring = s.ring := rfl
@[simp] theorem State.setProfile_links (p : ProfileNo) (v : Profile) :
    (s.setProfile p v).links = s.links := rfl
@[simp] theorem State.setProfile_restartPending (p : ProfileNo) (v : Profile) :
    (s.setProfile p v).restartPending = s.restartPending := rfl
@[simp] theorem State.setProfile_freeDraws (p : ProfileNo) (v : Profile) :
    (s.setProfile p v).freeDraws = s.freeDraws := rfl
@[simp] theorem State.setProfile_pending (p : ProfileNo) (v : Profile) :
    (s.setProfile p v).pending = s.pending := rfl

/-! ### setEntry -/

@[simp] theorem State.setEntry_resetAsserted (i : EntryNo) (e : Entry) :
    (s.setEntry i e).resetAsserted = s.resetAsserted := rfl
@[simp] theorem State.setEntry_highway (i : EntryNo) (e : Entry) :
    (s.setEntry i e).highway = s.highway := rfl
@[simp] theorem State.setEntry_clock (i : EntryNo) (e : Entry) :
    (s.setEntry i e).clock = s.clock := rfl
@[simp] theorem State.setEntry_tickDue (i : EntryNo) (e : Entry) :
    (s.setEntry i e).tickDue = s.tickDue := rfl
@[simp] theorem State.setEntry_schedule (i : EntryNo) (e : Entry) :
    (s.setEntry i e).schedule = s.schedule.set i e := rfl
@[simp] theorem State.setEntry_channels (i : EntryNo) (e : Entry) :
    (s.setEntry i e).channels = s.channels := rfl
@[simp] theorem State.setEntry_profiles (i : EntryNo) (e : Entry) :
    (s.setEntry i e).profiles = s.profiles := rfl
@[simp] theorem State.setEntry_groups (i : EntryNo) (e : Entry) :
    (s.setEntry i e).groups = s.groups := rfl
@[simp] theorem State.setEntry_ring (i : EntryNo) (e : Entry) :
    (s.setEntry i e).ring = s.ring := rfl
@[simp] theorem State.setEntry_links (i : EntryNo) (e : Entry) :
    (s.setEntry i e).links = s.links := rfl
@[simp] theorem State.setEntry_restartPending (i : EntryNo) (e : Entry) :
    (s.setEntry i e).restartPending = s.restartPending := rfl
@[simp] theorem State.setEntry_freeDraws (i : EntryNo) (e : Entry) :
    (s.setEntry i e).freeDraws = s.freeDraws := rfl
@[simp] theorem State.setEntry_pending (i : EntryNo) (e : Entry) :
    (s.setEntry i e).pending = s.pending := rfl

/-! ### withRing -/

@[simp] theorem State.withRing_resetAsserted (r : Ring) :
    (s.withRing r).resetAsserted = s.resetAsserted := rfl
@[simp] theorem State.withRing_highway (r : Ring) :
    (s.withRing r).highway = s.highway := rfl
@[simp] theorem State.withRing_clock (r : Ring) :
    (s.withRing r).clock = s.clock := rfl
@[simp] theorem State.withRing_tickDue (r : Ring) :
    (s.withRing r).tickDue = s.tickDue := rfl
@[simp] theorem State.withRing_schedule (r : Ring) :
    (s.withRing r).schedule = s.schedule := rfl
@[simp] theorem State.withRing_channels (r : Ring) :
    (s.withRing r).channels = s.channels := rfl
@[simp] theorem State.withRing_profiles (r : Ring) :
    (s.withRing r).profiles = s.profiles := rfl
@[simp] theorem State.withRing_groups (r : Ring) :
    (s.withRing r).groups = s.groups := rfl
@[simp] theorem State.withRing_ring (r : Ring) :
    (s.withRing r).ring = r := rfl
@[simp] theorem State.withRing_links (r : Ring) :
    (s.withRing r).links = ⟨reportSlots r .cLink s.links.c, reportSlots r .mLink s.links.m⟩ := rfl
@[simp] theorem State.withRing_restartPending (r : Ring) :
    (s.withRing r).restartPending = s.restartPending := rfl
@[simp] theorem State.withRing_freeDraws (r : Ring) :
    (s.withRing r).freeDraws = s.freeDraws := rfl
@[simp] theorem State.withRing_pending (r : Ring) :
    (s.withRing r).pending = s.pending := rfl

/-! ### withPending -/

@[simp] theorem State.withPending_resetAsserted (q : List Instr) :
    (s.withPending q).resetAsserted = s.resetAsserted := rfl
@[simp] theorem State.withPending_highway (q : List Instr) :
    (s.withPending q).highway = s.highway := rfl
@[simp] theorem State.withPending_clock (q : List Instr) :
    (s.withPending q).clock = s.clock := rfl
@[simp] theorem State.withPending_tickDue (q : List Instr) :
    (s.withPending q).tickDue = s.tickDue := rfl
@[simp] theorem State.withPending_schedule (q : List Instr) :
    (s.withPending q).schedule = s.schedule := rfl
@[simp] theorem State.withPending_channels (q : List Instr) :
    (s.withPending q).channels = s.channels := rfl
@[simp] theorem State.withPending_profiles (q : List Instr) :
    (s.withPending q).profiles = s.profiles := rfl
@[simp] theorem State.withPending_groups (q : List Instr) :
    (s.withPending q).groups = s.groups := rfl
@[simp] theorem State.withPending_ring (q : List Instr) :
    (s.withPending q).ring = s.ring := rfl
@[simp] theorem State.withPending_links (q : List Instr) :
    (s.withPending q).links = s.links := rfl
@[simp] theorem State.withPending_restartPending (q : List Instr) :
    (s.withPending q).restartPending = s.restartPending := rfl
@[simp] theorem State.withPending_freeDraws (q : List Instr) :
    (s.withPending q).freeDraws = s.freeDraws := rfl
@[simp] theorem State.withPending_pending (q : List Instr) :
    (s.withPending q).pending = q := rfl

/-! ### modifyConds: what it leaves alone -/

@[simp] theorem State.modifyConds_resetAsserted (l : Link) (f : Conditions → Conditions) :
    (s.modifyConds l f).resetAsserted = s.resetAsserted := rfl
@[simp] theorem State.modifyConds_highway (l : Link) (f : Conditions → Conditions) :
    (s.modifyConds l f).highway = s.highway := rfl
@[simp] theorem State.modifyConds_clock (l : Link) (f : Conditions → Conditions) :
    (s.modifyConds l f).clock = s.clock := rfl
@[simp] theorem State.modifyConds_tickDue (l : Link) (f : Conditions → Conditions) :
    (s.modifyConds l f).tickDue = s.tickDue := rfl
@[simp] theorem State.modifyConds_schedule (l : Link) (f : Conditions → Conditions) :
    (s.modifyConds l f).schedule = s.schedule := rfl
@[simp] theorem State.modifyConds_channels (l : Link) (f : Conditions → Conditions) :
    (s.modifyConds l f).channels = s.channels := rfl
@[simp] theorem State.modifyConds_profiles (l : Link) (f : Conditions → Conditions) :
    (s.modifyConds l f).profiles = s.profiles := rfl
@[simp] theorem State.modifyConds_groups (l : Link) (f : Conditions → Conditions) :
    (s.modifyConds l f).groups = s.groups := rfl
@[simp] theorem State.modifyConds_ring (l : Link) (f : Conditions → Conditions) :
    (s.modifyConds l f).ring = s.ring := rfl
@[simp] theorem State.modifyConds_restartPending (l : Link) (f : Conditions → Conditions) :
    (s.modifyConds l f).restartPending = s.restartPending := rfl
@[simp] theorem State.modifyConds_freeDraws (l : Link) (f : Conditions → Conditions) :
    (s.modifyConds l f).freeDraws = s.freeDraws := rfl
@[simp] theorem State.modifyConds_pending (l : Link) (f : Conditions → Conditions) :
    (s.modifyConds l f).pending = s.pending := rfl

/-! ### linkError: what it leaves alone -/

@[simp] theorem State.linkError_resetAsserted (l : Link) (k : LinkErrorKind) :
    (s.linkError l k).resetAsserted = s.resetAsserted := rfl
@[simp] theorem State.linkError_highway (l : Link) (k : LinkErrorKind) :
    (s.linkError l k).highway = s.highway := rfl
@[simp] theorem State.linkError_clock (l : Link) (k : LinkErrorKind) :
    (s.linkError l k).clock = s.clock := rfl
@[simp] theorem State.linkError_tickDue (l : Link) (k : LinkErrorKind) :
    (s.linkError l k).tickDue = s.tickDue := rfl
@[simp] theorem State.linkError_schedule (l : Link) (k : LinkErrorKind) :
    (s.linkError l k).schedule = s.schedule := rfl
@[simp] theorem State.linkError_channels (l : Link) (k : LinkErrorKind) :
    (s.linkError l k).channels = s.channels := rfl
@[simp] theorem State.linkError_profiles (l : Link) (k : LinkErrorKind) :
    (s.linkError l k).profiles = s.profiles := rfl
@[simp] theorem State.linkError_groups (l : Link) (k : LinkErrorKind) :
    (s.linkError l k).groups = s.groups := rfl
@[simp] theorem State.linkError_ring (l : Link) (k : LinkErrorKind) :
    (s.linkError l k).ring = s.ring := rfl
@[simp] theorem State.linkError_restartPending (l : Link) (k : LinkErrorKind) :
    (s.linkError l k).restartPending = s.restartPending := rfl
@[simp] theorem State.linkError_freeDraws (l : Link) (k : LinkErrorKind) :
    (s.linkError l k).freeDraws = s.freeDraws := rfl
@[simp] theorem State.linkError_pending (l : Link) (k : LinkErrorKind) :
    (s.linkError l k).pending = s.pending := rfl

/-! ### setRx: what it leaves alone -/

@[simp] theorem State.setRx_resetAsserted (l : Link) (rx : Receiver) :
    (s.setRx l rx).resetAsserted = s.resetAsserted := rfl
@[simp] theorem State.setRx_highway (l : Link) (rx : Receiver) :
    (s.setRx l rx).highway = s.highway := rfl
@[simp] theorem State.setRx_clock (l : Link) (rx : Receiver) :
    (s.setRx l rx).clock = s.clock := rfl
@[simp] theorem State.setRx_tickDue (l : Link) (rx : Receiver) :
    (s.setRx l rx).tickDue = s.tickDue := rfl
@[simp] theorem State.setRx_schedule (l : Link) (rx : Receiver) :
    (s.setRx l rx).schedule = s.schedule := rfl
@[simp] theorem State.setRx_channels (l : Link) (rx : Receiver) :
    (s.setRx l rx).channels = s.channels := rfl
@[simp] theorem State.setRx_profiles (l : Link) (rx : Receiver) :
    (s.setRx l rx).profiles = s.profiles := rfl
@[simp] theorem State.setRx_groups (l : Link) (rx : Receiver) :
    (s.setRx l rx).groups = s.groups := rfl
@[simp] theorem State.setRx_ring (l : Link) (rx : Receiver) :
    (s.setRx l rx).ring = s.ring := rfl
@[simp] theorem State.setRx_restartPending (l : Link) (rx : Receiver) :
    (s.setRx l rx).restartPending = s.restartPending := rfl
@[simp] theorem State.setRx_freeDraws (l : Link) (rx : Receiver) :
    (s.setRx l rx).freeDraws = s.freeDraws := rfl
@[simp] theorem State.setRx_pending (l : Link) (rx : Receiver) :
    (s.setRx l rx).pending = s.pending := rfl

/-! ### hand: what it leaves alone -/

@[simp] theorem State.hand_resetAsserted (d : Link) (ch : Option ChannelNo) (p : Payload) :
    (s.hand d ch p).resetAsserted = s.resetAsserted := rfl
@[simp] theorem State.hand_highway (d : Link) (ch : Option ChannelNo) (p : Payload) :
    (s.hand d ch p).highway = s.highway := rfl
@[simp] theorem State.hand_clock (d : Link) (ch : Option ChannelNo) (p : Payload) :
    (s.hand d ch p).clock = s.clock := rfl
@[simp] theorem State.hand_tickDue (d : Link) (ch : Option ChannelNo) (p : Payload) :
    (s.hand d ch p).tickDue = s.tickDue := rfl
@[simp] theorem State.hand_schedule (d : Link) (ch : Option ChannelNo) (p : Payload) :
    (s.hand d ch p).schedule = s.schedule := rfl
@[simp] theorem State.hand_channels (d : Link) (ch : Option ChannelNo) (p : Payload) :
    (s.hand d ch p).channels = s.channels := rfl
@[simp] theorem State.hand_profiles (d : Link) (ch : Option ChannelNo) (p : Payload) :
    (s.hand d ch p).profiles = s.profiles := rfl
@[simp] theorem State.hand_groups (d : Link) (ch : Option ChannelNo) (p : Payload) :
    (s.hand d ch p).groups = s.groups := rfl
@[simp] theorem State.hand_restartPending (d : Link) (ch : Option ChannelNo) (p : Payload) :
    (s.hand d ch p).restartPending = s.restartPending := rfl
@[simp] theorem State.hand_freeDraws (d : Link) (ch : Option ChannelNo) (p : Payload) :
    (s.hand d ch p).freeDraws = s.freeDraws := rfl
@[simp] theorem State.hand_pending (d : Link) (ch : Option ChannelNo) (p : Payload) :
    (s.hand d ch p).pending = s.pending := rfl

/-! ### handEvent: what it leaves alone -/

@[simp] theorem State.handEvent_resetAsserted (ch : Option ChannelNo) (e : Event) :
    (s.handEvent ch e).resetAsserted = s.resetAsserted := rfl
@[simp] theorem State.handEvent_highway (ch : Option ChannelNo) (e : Event) :
    (s.handEvent ch e).highway = s.highway := rfl
@[simp] theorem State.handEvent_clock (ch : Option ChannelNo) (e : Event) :
    (s.handEvent ch e).clock = s.clock := rfl
@[simp] theorem State.handEvent_tickDue (ch : Option ChannelNo) (e : Event) :
    (s.handEvent ch e).tickDue = s.tickDue := rfl
@[simp] theorem State.handEvent_schedule (ch : Option ChannelNo) (e : Event) :
    (s.handEvent ch e).schedule = s.schedule := rfl
@[simp] theorem State.handEvent_channels (ch : Option ChannelNo) (e : Event) :
    (s.handEvent ch e).channels = s.channels := rfl
@[simp] theorem State.handEvent_profiles (ch : Option ChannelNo) (e : Event) :
    (s.handEvent ch e).profiles = s.profiles := rfl
@[simp] theorem State.handEvent_groups (ch : Option ChannelNo) (e : Event) :
    (s.handEvent ch e).groups = s.groups := rfl
@[simp] theorem State.handEvent_restartPending (ch : Option ChannelNo) (e : Event) :
    (s.handEvent ch e).restartPending = s.restartPending := rfl
@[simp] theorem State.handEvent_freeDraws (ch : Option ChannelNo) (e : Event) :
    (s.handEvent ch e).freeDraws = s.freeDraws := rfl
@[simp] theorem State.handEvent_pending (ch : Option ChannelNo) (e : Event) :
    (s.handEvent ch e).pending = s.pending := rfl

/-! ### handEvent?: what it leaves alone -/

@[simp] theorem State.handEvent_opt_resetAsserted (ch : Option ChannelNo) (e : Option Event) :
    (s.handEvent? ch e).resetAsserted = s.resetAsserted := by cases e <;> rfl
@[simp] theorem State.handEvent_opt_highway (ch : Option ChannelNo) (e : Option Event) :
    (s.handEvent? ch e).highway = s.highway := by cases e <;> rfl
@[simp] theorem State.handEvent_opt_clock (ch : Option ChannelNo) (e : Option Event) :
    (s.handEvent? ch e).clock = s.clock := by cases e <;> rfl
@[simp] theorem State.handEvent_opt_tickDue (ch : Option ChannelNo) (e : Option Event) :
    (s.handEvent? ch e).tickDue = s.tickDue := by cases e <;> rfl
@[simp] theorem State.handEvent_opt_schedule (ch : Option ChannelNo) (e : Option Event) :
    (s.handEvent? ch e).schedule = s.schedule := by cases e <;> rfl
@[simp] theorem State.handEvent_opt_channels (ch : Option ChannelNo) (e : Option Event) :
    (s.handEvent? ch e).channels = s.channels := by cases e <;> rfl
@[simp] theorem State.handEvent_opt_profiles (ch : Option ChannelNo) (e : Option Event) :
    (s.handEvent? ch e).profiles = s.profiles := by cases e <;> rfl
@[simp] theorem State.handEvent_opt_groups (ch : Option ChannelNo) (e : Option Event) :
    (s.handEvent? ch e).groups = s.groups := by cases e <;> rfl
@[simp] theorem State.handEvent_opt_restartPending (ch : Option ChannelNo) (e : Option Event) :
    (s.handEvent? ch e).restartPending = s.restartPending := by cases e <;> rfl
@[simp] theorem State.handEvent_opt_freeDraws (ch : Option ChannelNo) (e : Option Event) :
    (s.handEvent? ch e).freeDraws = s.freeDraws := by cases e <;> rfl
@[simp] theorem State.handEvent_opt_pending (ch : Option ChannelNo) (e : Option Event) :
    (s.handEvent? ch e).pending = s.pending := by cases e <;> rfl

/-! ### handSummary: what it leaves alone -/

@[simp] theorem State.handSummary_resetAsserted (d : Link) (ch : ChannelNo) (w : EndReason) :
    (s.handSummary d ch w).resetAsserted = s.resetAsserted := rfl
@[simp] theorem State.handSummary_highway (d : Link) (ch : ChannelNo) (w : EndReason) :
    (s.handSummary d ch w).highway = s.highway := rfl
@[simp] theorem State.handSummary_clock (d : Link) (ch : ChannelNo) (w : EndReason) :
    (s.handSummary d ch w).clock = s.clock := rfl
@[simp] theorem State.handSummary_tickDue (d : Link) (ch : ChannelNo) (w : EndReason) :
    (s.handSummary d ch w).tickDue = s.tickDue := rfl
@[simp] theorem State.handSummary_schedule (d : Link) (ch : ChannelNo) (w : EndReason) :
    (s.handSummary d ch w).schedule = s.schedule := rfl
@[simp] theorem State.handSummary_channels (d : Link) (ch : ChannelNo) (w : EndReason) :
    (s.handSummary d ch w).channels = s.channels := rfl
@[simp] theorem State.handSummary_profiles (d : Link) (ch : ChannelNo) (w : EndReason) :
    (s.handSummary d ch w).profiles = s.profiles := rfl
@[simp] theorem State.handSummary_groups (d : Link) (ch : ChannelNo) (w : EndReason) :
    (s.handSummary d ch w).groups = s.groups := rfl
@[simp] theorem State.handSummary_restartPending (d : Link) (ch : ChannelNo) (w : EndReason) :
    (s.handSummary d ch w).restartPending = s.restartPending := rfl
@[simp] theorem State.handSummary_freeDraws (d : Link) (ch : ChannelNo) (w : EndReason) :
    (s.handSummary d ch w).freeDraws = s.freeDraws := rfl
@[simp] theorem State.handSummary_pending (d : Link) (ch : ChannelNo) (w : EndReason) :
    (s.handSummary d ch w).pending = s.pending := rfl

/-! ### applyTo: what it leaves alone -/

@[simp] theorem State.applyTo_resetAsserted (n : ProfileNo) (ch : ChannelNo) :
    (s.applyTo n ch).resetAsserted = s.resetAsserted := rfl
@[simp] theorem State.applyTo_highway (n : ProfileNo) (ch : ChannelNo) :
    (s.applyTo n ch).highway = s.highway := rfl
@[simp] theorem State.applyTo_clock (n : ProfileNo) (ch : ChannelNo) :
    (s.applyTo n ch).clock = s.clock := rfl
@[simp] theorem State.applyTo_tickDue (n : ProfileNo) (ch : ChannelNo) :
    (s.applyTo n ch).tickDue = s.tickDue := rfl
@[simp] theorem State.applyTo_schedule (n : ProfileNo) (ch : ChannelNo) :
    (s.applyTo n ch).schedule = s.schedule := rfl
@[simp] theorem State.applyTo_profiles (n : ProfileNo) (ch : ChannelNo) :
    (s.applyTo n ch).profiles = s.profiles := rfl
@[simp] theorem State.applyTo_groups (n : ProfileNo) (ch : ChannelNo) :
    (s.applyTo n ch).groups = s.groups := rfl
@[simp] theorem State.applyTo_ring (n : ProfileNo) (ch : ChannelNo) :
    (s.applyTo n ch).ring = s.ring := rfl
@[simp] theorem State.applyTo_links (n : ProfileNo) (ch : ChannelNo) :
    (s.applyTo n ch).links = s.links := rfl
@[simp] theorem State.applyTo_restartPending (n : ProfileNo) (ch : ChannelNo) :
    (s.applyTo n ch).restartPending = s.restartPending := rfl
@[simp] theorem State.applyTo_freeDraws (n : ProfileNo) (ch : ChannelNo) :
    (s.applyTo n ch).freeDraws = s.freeDraws := rfl
@[simp] theorem State.applyTo_pending (n : ProfileNo) (ch : ChannelNo) :
    (s.applyTo n ch).pending = s.pending := rfl

/-! ### applyWhere: what it leaves alone -/

@[simp] theorem State.applyWhere_resetAsserted (n : ProfileNo) (f : Channel → Bool) :
    (s.applyWhere n f).resetAsserted = s.resetAsserted := rfl
@[simp] theorem State.applyWhere_highway (n : ProfileNo) (f : Channel → Bool) :
    (s.applyWhere n f).highway = s.highway := rfl
@[simp] theorem State.applyWhere_clock (n : ProfileNo) (f : Channel → Bool) :
    (s.applyWhere n f).clock = s.clock := rfl
@[simp] theorem State.applyWhere_tickDue (n : ProfileNo) (f : Channel → Bool) :
    (s.applyWhere n f).tickDue = s.tickDue := rfl
@[simp] theorem State.applyWhere_schedule (n : ProfileNo) (f : Channel → Bool) :
    (s.applyWhere n f).schedule = s.schedule := rfl
@[simp] theorem State.applyWhere_profiles (n : ProfileNo) (f : Channel → Bool) :
    (s.applyWhere n f).profiles = s.profiles := rfl
@[simp] theorem State.applyWhere_groups (n : ProfileNo) (f : Channel → Bool) :
    (s.applyWhere n f).groups = s.groups := rfl
@[simp] theorem State.applyWhere_ring (n : ProfileNo) (f : Channel → Bool) :
    (s.applyWhere n f).ring = s.ring := rfl
@[simp] theorem State.applyWhere_links (n : ProfileNo) (f : Channel → Bool) :
    (s.applyWhere n f).links = s.links := rfl
@[simp] theorem State.applyWhere_restartPending (n : ProfileNo) (f : Channel → Bool) :
    (s.applyWhere n f).restartPending = s.restartPending := rfl
@[simp] theorem State.applyWhere_freeDraws (n : ProfileNo) (f : Channel → Bool) :
    (s.applyWhere n f).freeDraws = s.freeDraws := rfl
@[simp] theorem State.applyWhere_pending (n : ProfileNo) (f : Channel → Bool) :
    (s.applyWhere n f).pending = s.pending := rfl

/-! ### regroup: what it leaves alone -/

@[simp] theorem State.regroup_resetAsserted (g : GroupNo) (st : List ProfileNo) (p : ProfileNo) :
    (s.regroup g st p).resetAsserted = s.resetAsserted := by unfold State.regroup; dsimp only; split <;> rfl
@[simp] theorem State.regroup_highway (g : GroupNo) (st : List ProfileNo) (p : ProfileNo) :
    (s.regroup g st p).highway = s.highway := by unfold State.regroup; dsimp only; split <;> rfl
@[simp] theorem State.regroup_clock (g : GroupNo) (st : List ProfileNo) (p : ProfileNo) :
    (s.regroup g st p).clock = s.clock := by unfold State.regroup; dsimp only; split <;> rfl
@[simp] theorem State.regroup_tickDue (g : GroupNo) (st : List ProfileNo) (p : ProfileNo) :
    (s.regroup g st p).tickDue = s.tickDue := by unfold State.regroup; dsimp only; split <;> rfl
@[simp] theorem State.regroup_schedule (g : GroupNo) (st : List ProfileNo) (p : ProfileNo) :
    (s.regroup g st p).schedule = s.schedule := by unfold State.regroup; dsimp only; split <;> rfl
@[simp] theorem State.regroup_profiles (g : GroupNo) (st : List ProfileNo) (p : ProfileNo) :
    (s.regroup g st p).profiles = s.profiles := by unfold State.regroup; dsimp only; split <;> rfl
@[simp] theorem State.regroup_ring (g : GroupNo) (st : List ProfileNo) (p : ProfileNo) :
    (s.regroup g st p).ring = s.ring := by unfold State.regroup; dsimp only; split <;> rfl
@[simp] theorem State.regroup_links (g : GroupNo) (st : List ProfileNo) (p : ProfileNo) :
    (s.regroup g st p).links = s.links := by unfold State.regroup; dsimp only; split <;> rfl
@[simp] theorem State.regroup_restartPending (g : GroupNo) (st : List ProfileNo) (p : ProfileNo) :
    (s.regroup g st p).restartPending = s.restartPending := by unfold State.regroup; dsimp only; split <;> rfl
@[simp] theorem State.regroup_freeDraws (g : GroupNo) (st : List ProfileNo) (p : ProfileNo) :
    (s.regroup g st p).freeDraws = s.freeDraws := by unfold State.regroup; dsimp only; split <;> rfl
@[simp] theorem State.regroup_pending (g : GroupNo) (st : List ProfileNo) (p : ProfileNo) :
    (s.regroup g st p).pending = s.pending := by unfold State.regroup; dsimp only; split <;> rfl

/-! ### putField: what it leaves alone -/

@[simp] theorem State.putField_resetAsserted (a : ChannelNo) (n : Nat) (f : FlagName) (v : BitVec 16) :
    (s.putField a n f v).resetAsserted = s.resetAsserted := rfl
@[simp] theorem State.putField_highway (a : ChannelNo) (n : Nat) (f : FlagName) (v : BitVec 16) :
    (s.putField a n f v).highway = s.highway := rfl
@[simp] theorem State.putField_clock (a : ChannelNo) (n : Nat) (f : FlagName) (v : BitVec 16) :
    (s.putField a n f v).clock = s.clock := rfl
@[simp] theorem State.putField_tickDue (a : ChannelNo) (n : Nat) (f : FlagName) (v : BitVec 16) :
    (s.putField a n f v).tickDue = s.tickDue := rfl
@[simp] theorem State.putField_schedule (a : ChannelNo) (n : Nat) (f : FlagName) (v : BitVec 16) :
    (s.putField a n f v).schedule = s.schedule := rfl
@[simp] theorem State.putField_profiles (a : ChannelNo) (n : Nat) (f : FlagName) (v : BitVec 16) :
    (s.putField a n f v).profiles = s.profiles := rfl
@[simp] theorem State.putField_groups (a : ChannelNo) (n : Nat) (f : FlagName) (v : BitVec 16) :
    (s.putField a n f v).groups = s.groups := rfl
@[simp] theorem State.putField_ring (a : ChannelNo) (n : Nat) (f : FlagName) (v : BitVec 16) :
    (s.putField a n f v).ring = s.ring := rfl
@[simp] theorem State.putField_links (a : ChannelNo) (n : Nat) (f : FlagName) (v : BitVec 16) :
    (s.putField a n f v).links = s.links := rfl
@[simp] theorem State.putField_restartPending (a : ChannelNo) (n : Nat) (f : FlagName) (v : BitVec 16) :
    (s.putField a n f v).restartPending = s.restartPending := rfl
@[simp] theorem State.putField_freeDraws (a : ChannelNo) (n : Nat) (f : FlagName) (v : BitVec 16) :
    (s.putField a n f v).freeDraws = s.freeDraws := rfl
@[simp] theorem State.putField_pending (a : ChannelNo) (n : Nat) (f : FlagName) (v : BitVec 16) :
    (s.putField a n f v).pending = s.pending := rfl

/-! ### putFlag: what it leaves alone -/

@[simp] theorem State.putFlag_resetAsserted (a : ChannelNo) (f : FlagName) (v : Bool) :
    (s.putFlag a f v).resetAsserted = s.resetAsserted := rfl
@[simp] theorem State.putFlag_highway (a : ChannelNo) (f : FlagName) (v : Bool) :
    (s.putFlag a f v).highway = s.highway := rfl
@[simp] theorem State.putFlag_clock (a : ChannelNo) (f : FlagName) (v : Bool) :
    (s.putFlag a f v).clock = s.clock := rfl
@[simp] theorem State.putFlag_tickDue (a : ChannelNo) (f : FlagName) (v : Bool) :
    (s.putFlag a f v).tickDue = s.tickDue := rfl
@[simp] theorem State.putFlag_schedule (a : ChannelNo) (f : FlagName) (v : Bool) :
    (s.putFlag a f v).schedule = s.schedule := rfl
@[simp] theorem State.putFlag_profiles (a : ChannelNo) (f : FlagName) (v : Bool) :
    (s.putFlag a f v).profiles = s.profiles := rfl
@[simp] theorem State.putFlag_groups (a : ChannelNo) (f : FlagName) (v : Bool) :
    (s.putFlag a f v).groups = s.groups := rfl
@[simp] theorem State.putFlag_ring (a : ChannelNo) (f : FlagName) (v : Bool) :
    (s.putFlag a f v).ring = s.ring := rfl
@[simp] theorem State.putFlag_links (a : ChannelNo) (f : FlagName) (v : Bool) :
    (s.putFlag a f v).links = s.links := rfl
@[simp] theorem State.putFlag_restartPending (a : ChannelNo) (f : FlagName) (v : Bool) :
    (s.putFlag a f v).restartPending = s.restartPending := rfl
@[simp] theorem State.putFlag_freeDraws (a : ChannelNo) (f : FlagName) (v : Bool) :
    (s.putFlag a f v).freeDraws = s.freeDraws := rfl
@[simp] theorem State.putFlag_pending (a : ChannelNo) (f : FlagName) (v : Bool) :
    (s.putFlag a f v).pending = s.pending := rfl

/-! ### countPulse: what it leaves alone -/

@[simp] theorem State.countPulse_resetAsserted (p : Pulse) :
    (s.countPulse p).resetAsserted = s.resetAsserted := rfl
@[simp] theorem State.countPulse_clock (p : Pulse) :
    (s.countPulse p).clock = s.clock := rfl
@[simp] theorem State.countPulse_tickDue (p : Pulse) :
    (s.countPulse p).tickDue = s.tickDue := rfl
@[simp] theorem State.countPulse_schedule (p : Pulse) :
    (s.countPulse p).schedule = s.schedule := rfl
@[simp] theorem State.countPulse_channels (p : Pulse) :
    (s.countPulse p).channels = s.channels := rfl
@[simp] theorem State.countPulse_profiles (p : Pulse) :
    (s.countPulse p).profiles = s.profiles := rfl
@[simp] theorem State.countPulse_groups (p : Pulse) :
    (s.countPulse p).groups = s.groups := rfl
@[simp] theorem State.countPulse_ring (p : Pulse) :
    (s.countPulse p).ring = s.ring := rfl
@[simp] theorem State.countPulse_links (p : Pulse) :
    (s.countPulse p).links = s.links := rfl
@[simp] theorem State.countPulse_restartPending (p : Pulse) :
    (s.countPulse p).restartPending = s.restartPending := rfl
@[simp] theorem State.countPulse_freeDraws (p : Pulse) :
    (s.countPulse p).freeDraws = s.freeDraws := rfl
@[simp] theorem State.countPulse_pending (p : Pulse) :
    (s.countPulse p).pending = s.pending := rfl

/-! ### lockedPulse: what it leaves alone -/

@[simp] theorem State.lockedPulse_resetAsserted (p : Pulse) :
    (s.lockedPulse p).resetAsserted = s.resetAsserted := rfl
@[simp] theorem State.lockedPulse_clock (p : Pulse) :
    (s.lockedPulse p).clock = s.clock := rfl
@[simp] theorem State.lockedPulse_tickDue (p : Pulse) :
    (s.lockedPulse p).tickDue = s.tickDue := rfl
@[simp] theorem State.lockedPulse_schedule (p : Pulse) :
    (s.lockedPulse p).schedule = s.schedule := rfl
@[simp] theorem State.lockedPulse_channels (p : Pulse) :
    (s.lockedPulse p).channels = s.channels := rfl
@[simp] theorem State.lockedPulse_profiles (p : Pulse) :
    (s.lockedPulse p).profiles = s.profiles := rfl
@[simp] theorem State.lockedPulse_groups (p : Pulse) :
    (s.lockedPulse p).groups = s.groups := rfl
@[simp] theorem State.lockedPulse_ring (p : Pulse) :
    (s.lockedPulse p).ring = s.ring := rfl
@[simp] theorem State.lockedPulse_links (p : Pulse) :
    (s.lockedPulse p).links = s.links := rfl
@[simp] theorem State.lockedPulse_restartPending (p : Pulse) :
    (s.lockedPulse p).restartPending = s.restartPending := rfl
@[simp] theorem State.lockedPulse_freeDraws (p : Pulse) :
    (s.lockedPulse p).freeDraws = s.freeDraws := rfl
@[simp] theorem State.lockedPulse_pending (p : Pulse) :
    (s.lockedPulse p).pending = s.pending := rfl

/-! ### Channels, links, profiles and groups read after an update -/

@[simp] theorem State.chan_setChan_self (ch : ChannelNo) (c : Channel) : (s.setChan ch c).chan ch = c := by
  simp [State.chan]

theorem State.chan_setChan (a b : ChannelNo) (c : Channel) :
    (s.setChan a c).chan b = if a = b then c else s.chan b := by
  simp [State.chan, Table.get_set]

@[simp] theorem State.chan_mapChans (f : Channel → Channel) (ch : ChannelNo) :
    (s.mapChans f).chan ch = f (s.chan ch) := by
  simp [State.chan]

@[simp] theorem State.link_setLink_self (l : Link) (k : LinkCtl) : (s.setLink l k).link l = k := by
  simp [State.link]

theorem State.link_setLink (a b : Link) (k : LinkCtl) :
    (s.setLink a k).link b = if a = b then k else s.link b := by
  simp [State.link, PerLink.get_set]

/-- The ring's report reaches each link controller (R194). -/
@[simp] theorem State.link_withRing (r : Ring) (l : Link) :
    (s.withRing r).link l = reportSlots r l (s.link l) := by
  cases l <;> rfl

/-- Nothing but the channel table decides what a channel holds. -/
theorem State.chan_congr {s t : State} (h : t.channels = s.channels) (ch : ChannelNo) :
    t.chan ch = s.chan ch := by
  simp [State.chan, h]

/-- Nothing but the links decides what a link holds. -/
theorem State.link_congr {s t : State} (h : t.links = s.links) (l : Link) : t.link l = s.link l := by
  simp [State.link, h]

/-- The last of two writes of one channel stands. -/
@[simp] theorem State.setChan_setChan (ch : ChannelNo) (c d : Channel) :
    (s.setChan ch c).setChan ch d = s.setChan ch d := by
  simp [State.setChan]

/-- The last of two writes of one link stands. -/
@[simp] theorem State.setLink_setLink (l : Link) (k m : LinkCtl) :
    (s.setLink l k).setLink l m = s.setLink l m := by
  simp [State.setLink]

/-- Writing back a channel changes nothing. -/
@[simp] theorem State.setChan_chan (ch : ChannelNo) : s.setChan ch (s.chan ch) = s := by
  simp [State.setChan, State.chan]

/-- Writing back a link controller changes nothing. -/
@[simp] theorem State.setLink_link (l : Link) : s.setLink l (s.link l) = s := by
  simp [State.setLink, State.link]

end Sys2Proof.Machine
end

