-- ==== Sys2Proof/Laws/Ops.lean ====
section
/-! SUPPORT. What each shared operation does, said once, and what it leaves alone. -/

namespace Sys2Proof.Machine

variable (s : State)

/-! ### restack: what it leaves alone -/

@[simp] theorem State.restack_resetAsserted (g : GroupNo) (st : List ProfileNo) :
    (s.restack g st).resetAsserted = s.resetAsserted := by simp [State.restack]
@[simp] theorem State.restack_highway (g : GroupNo) (st : List ProfileNo) :
    (s.restack g st).highway = s.highway := by simp [State.restack]
@[simp] theorem State.restack_clock (g : GroupNo) (st : List ProfileNo) :
    (s.restack g st).clock = s.clock := by simp [State.restack]
@[simp] theorem State.restack_tickDue (g : GroupNo) (st : List ProfileNo) :
    (s.restack g st).tickDue = s.tickDue := by simp [State.restack]
@[simp] theorem State.restack_schedule (g : GroupNo) (st : List ProfileNo) :
    (s.restack g st).schedule = s.schedule := by simp [State.restack]
@[simp] theorem State.restack_profiles (g : GroupNo) (st : List ProfileNo) :
    (s.restack g st).profiles = s.profiles := by simp [State.restack]
@[simp] theorem State.restack_restartPending (g : GroupNo) (st : List ProfileNo) :
    (s.restack g st).restartPending = s.restartPending := by simp [State.restack]
@[simp] theorem State.restack_freeDraws (g : GroupNo) (st : List ProfileNo) :
    (s.restack g st).freeDraws = s.freeDraws := by simp [State.restack]
@[simp] theorem State.restack_pending (g : GroupNo) (st : List ProfileNo) :
    (s.restack g st).pending = s.pending := by simp [State.restack]

/-! ### assign: what it leaves alone -/

@[simp] theorem State.assign_resetAsserted (ch : ChannelNo) (g : GroupNo) :
    (s.assign ch g).resetAsserted = s.resetAsserted := rfl
@[simp] theorem State.assign_highway (ch : ChannelNo) (g : GroupNo) :
    (s.assign ch g).highway = s.highway := rfl
@[simp] theorem State.assign_clock (ch : ChannelNo) (g : GroupNo) :
    (s.assign ch g).clock = s.clock := rfl
@[simp] theorem State.assign_tickDue (ch : ChannelNo) (g : GroupNo) :
    (s.assign ch g).tickDue = s.tickDue := rfl
@[simp] theorem State.assign_schedule (ch : ChannelNo) (g : GroupNo) :
    (s.assign ch g).schedule = s.schedule := rfl
@[simp] theorem State.assign_profiles (ch : ChannelNo) (g : GroupNo) :
    (s.assign ch g).profiles = s.profiles := rfl
@[simp] theorem State.assign_groups (ch : ChannelNo) (g : GroupNo) :
    (s.assign ch g).groups = s.groups := rfl
@[simp] theorem State.assign_ring (ch : ChannelNo) (g : GroupNo) :
    (s.assign ch g).ring = s.ring := rfl
@[simp] theorem State.assign_links (ch : ChannelNo) (g : GroupNo) :
    (s.assign ch g).links = s.links := rfl
@[simp] theorem State.assign_restartPending (ch : ChannelNo) (g : GroupNo) :
    (s.assign ch g).restartPending = s.restartPending := rfl
@[simp] theorem State.assign_freeDraws (ch : ChannelNo) (g : GroupNo) :
    (s.assign ch g).freeDraws = s.freeDraws := rfl
@[simp] theorem State.assign_pending (ch : ChannelNo) (g : GroupNo) :
    (s.assign ch g).pending = s.pending := rfl

/-! ### countFrame: what it leaves alone -/

@[simp] theorem State.countFrame_resetAsserted  :
    (s.countFrame).resetAsserted = s.resetAsserted := by
  unfold State.countFrame; split <;> rfl
@[simp] theorem State.countFrame_highway  :
    (s.countFrame).highway = s.highway := by
  unfold State.countFrame; split <;> rfl
@[simp] theorem State.countFrame_schedule  :
    (s.countFrame).schedule = s.schedule := by
  unfold State.countFrame; split <;> rfl
@[simp] theorem State.countFrame_channels  :
    (s.countFrame).channels = s.channels := by
  unfold State.countFrame; split <;> rfl
@[simp] theorem State.countFrame_profiles  :
    (s.countFrame).profiles = s.profiles := by
  unfold State.countFrame; split <;> rfl
@[simp] theorem State.countFrame_groups  :
    (s.countFrame).groups = s.groups := by
  unfold State.countFrame; split <;> rfl
@[simp] theorem State.countFrame_ring  :
    (s.countFrame).ring = s.ring := by
  unfold State.countFrame; split <;> rfl
@[simp] theorem State.countFrame_links  :
    (s.countFrame).links = s.links := by
  unfold State.countFrame; split <;> rfl
@[simp] theorem State.countFrame_restartPending  :
    (s.countFrame).restartPending = s.restartPending := by
  unfold State.countFrame; split <;> rfl
@[simp] theorem State.countFrame_freeDraws  :
    (s.countFrame).freeDraws = s.freeDraws := by
  unfold State.countFrame; split <;> rfl
@[simp] theorem State.countFrame_pending  :
    (s.countFrame).pending = s.pending := by
  unfold State.countFrame; split <;> rfl

/-! ### beginFrame: what it leaves alone -/

@[simp] theorem State.beginFrame_resetAsserted (n : Nat) :
    (s.beginFrame n).resetAsserted = s.resetAsserted := by
  simp [State.beginFrame]
@[simp] theorem State.beginFrame_schedule (n : Nat) :
    (s.beginFrame n).schedule = s.schedule := by
  simp [State.beginFrame]
@[simp] theorem State.beginFrame_profiles (n : Nat) :
    (s.beginFrame n).profiles = s.profiles := by
  simp [State.beginFrame]
@[simp] theorem State.beginFrame_groups (n : Nat) :
    (s.beginFrame n).groups = s.groups := by
  simp [State.beginFrame]
@[simp] theorem State.beginFrame_ring (n : Nat) :
    (s.beginFrame n).ring = s.ring := by
  simp [State.beginFrame]
@[simp] theorem State.beginFrame_links (n : Nat) :
    (s.beginFrame n).links = s.links := by
  simp [State.beginFrame]
@[simp] theorem State.beginFrame_restartPending (n : Nat) :
    (s.beginFrame n).restartPending = s.restartPending := by
  simp [State.beginFrame]
@[simp] theorem State.beginFrame_freeDraws (n : Nat) :
    (s.beginFrame n).freeDraws = s.freeDraws := by
  simp [State.beginFrame]
@[simp] theorem State.beginFrame_pending (n : Nat) :
    (s.beginFrame n).pending = s.pending := by
  simp [State.beginFrame]

/-! ### nextFrame: what it leaves alone -/

@[simp] theorem State.nextFrame_resetAsserted  :
    (s.nextFrame).resetAsserted = s.resetAsserted := by
  simp [State.nextFrame]
@[simp] theorem State.nextFrame_schedule  :
    (s.nextFrame).schedule = s.schedule := by
  simp [State.nextFrame]
@[simp] theorem State.nextFrame_profiles  :
    (s.nextFrame).profiles = s.profiles := by
  simp [State.nextFrame]
@[simp] theorem State.nextFrame_groups  :
    (s.nextFrame).groups = s.groups := by
  simp [State.nextFrame]
@[simp] theorem State.nextFrame_ring  :
    (s.nextFrame).ring = s.ring := by
  simp [State.nextFrame]
@[simp] theorem State.nextFrame_links  :
    (s.nextFrame).links = s.links := by
  simp [State.nextFrame]
@[simp] theorem State.nextFrame_restartPending  :
    (s.nextFrame).restartPending = s.restartPending := by
  simp [State.nextFrame]
@[simp] theorem State.nextFrame_freeDraws  :
    (s.nextFrame).freeDraws = s.freeDraws := by
  simp [State.nextFrame]
@[simp] theorem State.nextFrame_pending  :
    (s.nextFrame).pending = s.pending := by
  simp [State.nextFrame]

/-! ### advanceFrame: what it leaves alone -/

@[simp] theorem State.advanceFrame_resetAsserted (n : Nat) :
    (s.advanceFrame n).resetAsserted = s.resetAsserted := by
  simp [State.advanceFrame]
@[simp] theorem State.advanceFrame_schedule (n : Nat) :
    (s.advanceFrame n).schedule = s.schedule := by
  simp [State.advanceFrame]
@[simp] theorem State.advanceFrame_profiles (n : Nat) :
    (s.advanceFrame n).profiles = s.profiles := by
  simp [State.advanceFrame]
@[simp] theorem State.advanceFrame_groups (n : Nat) :
    (s.advanceFrame n).groups = s.groups := by
  simp [State.advanceFrame]
@[simp] theorem State.advanceFrame_ring (n : Nat) :
    (s.advanceFrame n).ring = s.ring := by
  simp [State.advanceFrame]
@[simp] theorem State.advanceFrame_links (n : Nat) :
    (s.advanceFrame n).links = s.links := by
  simp [State.advanceFrame]
@[simp] theorem State.advanceFrame_restartPending (n : Nat) :
    (s.advanceFrame n).restartPending = s.restartPending := by
  simp [State.advanceFrame]
@[simp] theorem State.advanceFrame_freeDraws (n : Nat) :
    (s.advanceFrame n).freeDraws = s.freeDraws := by
  simp [State.advanceFrame]
@[simp] theorem State.advanceFrame_pending (n : Nat) :
    (s.advanceFrame n).pending = s.pending := by
  simp [State.advanceFrame]

/-! ### enterLocked: what it leaves alone -/

@[simp] theorem State.enterLocked_resetAsserted (p : Pulse) :
    (s.enterLocked p).resetAsserted = s.resetAsserted := by
  simp [State.enterLocked]
@[simp] theorem State.enterLocked_schedule (p : Pulse) :
    (s.enterLocked p).schedule = s.schedule := by
  simp [State.enterLocked]
@[simp] theorem State.enterLocked_profiles (p : Pulse) :
    (s.enterLocked p).profiles = s.profiles := by
  simp [State.enterLocked]
@[simp] theorem State.enterLocked_groups (p : Pulse) :
    (s.enterLocked p).groups = s.groups := by
  simp [State.enterLocked]
@[simp] theorem State.enterLocked_ring (p : Pulse) :
    (s.enterLocked p).ring = s.ring := by
  simp [State.enterLocked]
@[simp] theorem State.enterLocked_links (p : Pulse) :
    (s.enterLocked p).links = s.links := by
  simp [State.enterLocked]
@[simp] theorem State.enterLocked_restartPending (p : Pulse) :
    (s.enterLocked p).restartPending = s.restartPending := by
  simp [State.enterLocked]
@[simp] theorem State.enterLocked_freeDraws (p : Pulse) :
    (s.enterLocked p).freeDraws = s.freeDraws := by
  simp [State.enterLocked]
@[simp] theorem State.enterLocked_pending (p : Pulse) :
    (s.enterLocked p).pending = s.pending := by
  simp [State.enterLocked]

/-! ### restore: what it leaves alone -/

@[simp] theorem State.restore_resetAsserted  :
    (s.restore).resetAsserted = s.resetAsserted := by
  simp [State.restore]
@[simp] theorem State.restore_highway  :
    (s.restore).highway = s.highway := by
  simp [State.restore]
@[simp] theorem State.restore_clock  :
    (s.restore).clock = s.clock := by
  simp [State.restore]
@[simp] theorem State.restore_tickDue  :
    (s.restore).tickDue = s.tickDue := by
  simp [State.restore]
@[simp] theorem State.restore_schedule  :
    (s.restore).schedule = s.schedule := by
  simp [State.restore]
@[simp] theorem State.restore_profiles  :
    (s.restore).profiles = s.profiles := by
  simp [State.restore]
@[simp] theorem State.restore_groups  :
    (s.restore).groups = s.groups := by
  simp [State.restore]
@[simp] theorem State.restore_restartPending  :
    (s.restore).restartPending = s.restartPending := by
  simp [State.restore]
@[simp] theorem State.restore_freeDraws  :
    (s.restore).freeDraws = s.freeDraws := by
  simp [State.restore]
@[simp] theorem State.restore_pending  :
    (s.restore).pending = s.pending := by
  simp [State.restore]

/-! ### enterLost: what it leaves alone -/

@[simp] theorem State.enterLost_resetAsserted  :
    (s.enterLost).resetAsserted = s.resetAsserted := by
  simp [State.enterLost]
@[simp] theorem State.enterLost_schedule  :
    (s.enterLost).schedule = s.schedule := by
  simp [State.enterLost]
@[simp] theorem State.enterLost_profiles  :
    (s.enterLost).profiles = s.profiles := by
  simp [State.enterLost]
@[simp] theorem State.enterLost_groups  :
    (s.enterLost).groups = s.groups := by
  simp [State.enterLost]
@[simp] theorem State.enterLost_restartPending  :
    (s.enterLost).restartPending = s.restartPending := by
  simp [State.enterLost]
@[simp] theorem State.enterLost_freeDraws  :
    (s.enterLost).freeDraws = s.freeDraws := by
  simp [State.enterLost]
@[simp] theorem State.enterLost_pending  :
    (s.enterLost).pending = s.pending := by
  simp [State.enterLost]

/-! ### evaluateGroup: what it leaves alone -/

@[simp] theorem State.evaluateGroup_resetAsserted (g : GroupNo) :
    (s.evaluateGroup g).resetAsserted = s.resetAsserted := by
  simp [State.evaluateGroup]
@[simp] theorem State.evaluateGroup_highway (g : GroupNo) :
    (s.evaluateGroup g).highway = s.highway := by
  simp [State.evaluateGroup]
@[simp] theorem State.evaluateGroup_clock (g : GroupNo) :
    (s.evaluateGroup g).clock = s.clock := by
  simp [State.evaluateGroup]
@[simp] theorem State.evaluateGroup_tickDue (g : GroupNo) :
    (s.evaluateGroup g).tickDue = s.tickDue := by
  simp [State.evaluateGroup]
@[simp] theorem State.evaluateGroup_schedule (g : GroupNo) :
    (s.evaluateGroup g).schedule = s.schedule := by
  simp [State.evaluateGroup]
@[simp] theorem State.evaluateGroup_profiles (g : GroupNo) :
    (s.evaluateGroup g).profiles = s.profiles := by
  simp [State.evaluateGroup]
@[simp] theorem State.evaluateGroup_ring (g : GroupNo) :
    (s.evaluateGroup g).ring = s.ring := by
  simp [State.evaluateGroup]
@[simp] theorem State.evaluateGroup_links (g : GroupNo) :
    (s.evaluateGroup g).links = s.links := by
  simp [State.evaluateGroup]
@[simp] theorem State.evaluateGroup_restartPending (g : GroupNo) :
    (s.evaluateGroup g).restartPending = s.restartPending := by
  simp [State.evaluateGroup]
@[simp] theorem State.evaluateGroup_freeDraws (g : GroupNo) :
    (s.evaluateGroup g).freeDraws = s.freeDraws := by
  simp [State.evaluateGroup]
@[simp] theorem State.evaluateGroup_pending (g : GroupNo) :
    (s.evaluateGroup g).pending = s.pending := by
  simp [State.evaluateGroup]

/-! ### evaluate: what it leaves alone -/

@[simp] theorem State.evaluate_resetAsserted  :
    (s.evaluate).resetAsserted = s.resetAsserted := by
  simp [State.evaluate, allGroups]
@[simp] theorem State.evaluate_highway  :
    (s.evaluate).highway = s.highway := by
  simp [State.evaluate, allGroups]
@[simp] theorem State.evaluate_clock  :
    (s.evaluate).clock = s.clock := by
  simp [State.evaluate, allGroups]
@[simp] theorem State.evaluate_tickDue  :
    (s.evaluate).tickDue = s.tickDue := by
  simp [State.evaluate, allGroups]
@[simp] theorem State.evaluate_schedule  :
    (s.evaluate).schedule = s.schedule := by
  simp [State.evaluate, allGroups]
@[simp] theorem State.evaluate_profiles  :
    (s.evaluate).profiles = s.profiles := by
  simp [State.evaluate, allGroups]
@[simp] theorem State.evaluate_ring  :
    (s.evaluate).ring = s.ring := by
  simp [State.evaluate, allGroups]
@[simp] theorem State.evaluate_links  :
    (s.evaluate).links = s.links := by
  simp [State.evaluate, allGroups]
@[simp] theorem State.evaluate_restartPending  :
    (s.evaluate).restartPending = s.restartPending := by
  simp [State.evaluate, allGroups]
@[simp] theorem State.evaluate_freeDraws  :
    (s.evaluate).freeDraws = s.freeDraws := by
  simp [State.evaluate, allGroups]
@[simp] theorem State.evaluate_pending  :
    (s.evaluate).pending = s.pending := by
  simp [State.evaluate, allGroups]

/-! ### handAll: what it leaves alone -/

@[simp] theorem State.handAll_resetAsserted (es : List (GroupNo × Event)) :
    (s.handAll es).resetAsserted = s.resetAsserted := by
  induction es generalizing s with
  | nil => rfl
  | cons e es ih => exact (ih (s.handEvent none e.2)).trans (by simp)
@[simp] theorem State.handAll_highway (es : List (GroupNo × Event)) :
    (s.handAll es).highway = s.highway := by
  induction es generalizing s with
  | nil => rfl
  | cons e es ih => exact (ih (s.handEvent none e.2)).trans (by simp)
@[simp] theorem State.handAll_clock (es : List (GroupNo × Event)) :
    (s.handAll es).clock = s.clock := by
  induction es generalizing s with
  | nil => rfl
  | cons e es ih => exact (ih (s.handEvent none e.2)).trans (by simp)
@[simp] theorem State.handAll_tickDue (es : List (GroupNo × Event)) :
    (s.handAll es).tickDue = s.tickDue := by
  induction es generalizing s with
  | nil => rfl
  | cons e es ih => exact (ih (s.handEvent none e.2)).trans (by simp)
@[simp] theorem State.handAll_schedule (es : List (GroupNo × Event)) :
    (s.handAll es).schedule = s.schedule := by
  induction es generalizing s with
  | nil => rfl
  | cons e es ih => exact (ih (s.handEvent none e.2)).trans (by simp)
@[simp] theorem State.handAll_channels (es : List (GroupNo × Event)) :
    (s.handAll es).channels = s.channels := by
  induction es generalizing s with
  | nil => rfl
  | cons e es ih => exact (ih (s.handEvent none e.2)).trans (by simp)
@[simp] theorem State.handAll_profiles (es : List (GroupNo × Event)) :
    (s.handAll es).profiles = s.profiles := by
  induction es generalizing s with
  | nil => rfl
  | cons e es ih => exact (ih (s.handEvent none e.2)).trans (by simp)
@[simp] theorem State.handAll_groups (es : List (GroupNo × Event)) :
    (s.handAll es).groups = s.groups := by
  induction es generalizing s with
  | nil => rfl
  | cons e es ih => exact (ih (s.handEvent none e.2)).trans (by simp)
@[simp] theorem State.handAll_restartPending (es : List (GroupNo × Event)) :
    (s.handAll es).restartPending = s.restartPending := by
  induction es generalizing s with
  | nil => rfl
  | cons e es ih => exact (ih (s.handEvent none e.2)).trans (by simp)
@[simp] theorem State.handAll_freeDraws (es : List (GroupNo × Event)) :
    (s.handAll es).freeDraws = s.freeDraws := by
  induction es generalizing s with
  | nil => rfl
  | cons e es ih => exact (ih (s.handEvent none e.2)).trans (by simp)
@[simp] theorem State.handAll_pending (es : List (GroupNo × Event)) :
    (s.handAll es).pending = s.pending := by
  induction es generalizing s with
  | nil => rfl
  | cons e es ih => exact (ih (s.handEvent none e.2)).trans (by simp)

/-! ### secondTick: what it leaves alone -/

@[simp] theorem State.secondTick_resetAsserted  :
    (s.secondTick).resetAsserted = s.resetAsserted := by
  simp [State.secondTick]
@[simp] theorem State.secondTick_highway  :
    (s.secondTick).highway = s.highway := by
  simp [State.secondTick]
@[simp] theorem State.secondTick_schedule  :
    (s.secondTick).schedule = s.schedule := by
  simp [State.secondTick]
@[simp] theorem State.secondTick_profiles  :
    (s.secondTick).profiles = s.profiles := by
  simp [State.secondTick]
@[simp] theorem State.secondTick_restartPending  :
    (s.secondTick).restartPending = s.restartPending := by
  simp [State.secondTick]
@[simp] theorem State.secondTick_pending  :
    (s.secondTick).pending = s.pending := by
  simp [State.secondTick]

/-! ### blockEnd: what it leaves alone -/

@[simp] theorem State.blockEnd_resetAsserted (ch : ChannelNo) :
    (s.blockEnd ch).resetAsserted = s.resetAsserted := by
  unfold State.blockEnd; dsimp only; split <;> split <;> simp
@[simp] theorem State.blockEnd_highway (ch : ChannelNo) :
    (s.blockEnd ch).highway = s.highway := by
  unfold State.blockEnd; dsimp only; split <;> split <;> simp
@[simp] theorem State.blockEnd_clock (ch : ChannelNo) :
    (s.blockEnd ch).clock = s.clock := by
  unfold State.blockEnd; dsimp only; split <;> split <;> simp
@[simp] theorem State.blockEnd_tickDue (ch : ChannelNo) :
    (s.blockEnd ch).tickDue = s.tickDue := by
  unfold State.blockEnd; dsimp only; split <;> split <;> simp
@[simp] theorem State.blockEnd_schedule (ch : ChannelNo) :
    (s.blockEnd ch).schedule = s.schedule := by
  unfold State.blockEnd; dsimp only; split <;> split <;> simp
@[simp] theorem State.blockEnd_profiles (ch : ChannelNo) :
    (s.blockEnd ch).profiles = s.profiles := by
  unfold State.blockEnd; dsimp only; split <;> split <;> simp
@[simp] theorem State.blockEnd_groups (ch : ChannelNo) :
    (s.blockEnd ch).groups = s.groups := by
  unfold State.blockEnd; dsimp only; split <;> split <;> simp
@[simp] theorem State.blockEnd_restartPending (ch : ChannelNo) :
    (s.blockEnd ch).restartPending = s.restartPending := by
  unfold State.blockEnd; dsimp only; split <;> split <;> simp
@[simp] theorem State.blockEnd_freeDraws (ch : ChannelNo) :
    (s.blockEnd ch).freeDraws = s.freeDraws := by
  unfold State.blockEnd; dsimp only; split <;> split <;> simp
@[simp] theorem State.blockEnd_pending (ch : ChannelNo) :
    (s.blockEnd ch).pending = s.pending := by
  unfold State.blockEnd; dsimp only; split <;> split <;> simp

/-! ### endCall: what it leaves alone -/

@[simp] theorem State.endCall_resetAsserted (ch : ChannelNo) (why : EndReason) :
    (s.endCall ch why).resetAsserted = s.resetAsserted := by
  unfold State.endCall; dsimp only; split <;> simp
@[simp] theorem State.endCall_highway (ch : ChannelNo) (why : EndReason) :
    (s.endCall ch why).highway = s.highway := by
  unfold State.endCall; dsimp only; split <;> simp
@[simp] theorem State.endCall_clock (ch : ChannelNo) (why : EndReason) :
    (s.endCall ch why).clock = s.clock := by
  unfold State.endCall; dsimp only; split <;> simp
@[simp] theorem State.endCall_tickDue (ch : ChannelNo) (why : EndReason) :
    (s.endCall ch why).tickDue = s.tickDue := by
  unfold State.endCall; dsimp only; split <;> simp
@[simp] theorem State.endCall_schedule (ch : ChannelNo) (why : EndReason) :
    (s.endCall ch why).schedule = s.schedule := by
  unfold State.endCall; dsimp only; split <;> simp
@[simp] theorem State.endCall_profiles (ch : ChannelNo) (why : EndReason) :
    (s.endCall ch why).profiles = s.profiles := by
  unfold State.endCall; dsimp only; split <;> simp
@[simp] theorem State.endCall_groups (ch : ChannelNo) (why : EndReason) :
    (s.endCall ch why).groups = s.groups := by
  unfold State.endCall; dsimp only; split <;> simp
@[simp] theorem State.endCall_restartPending (ch : ChannelNo) (why : EndReason) :
    (s.endCall ch why).restartPending = s.restartPending := by
  unfold State.endCall; dsimp only; split <;> simp
@[simp] theorem State.endCall_freeDraws (ch : ChannelNo) (why : EndReason) :
    (s.endCall ch why).freeDraws = s.freeDraws := by
  unfold State.endCall; dsimp only; split <;> simp
@[simp] theorem State.endCall_pending (ch : ChannelNo) (why : EndReason) :
    (s.endCall ch why).pending = s.pending := by
  unfold State.endCall; dsimp only; split <;> simp

/-! ### restart: what it leaves alone -/

@[simp] theorem State.restart_resetAsserted  :
    (s.restart).resetAsserted = s.resetAsserted := rfl
@[simp] theorem State.restart_highway  :
    (s.restart).highway = s.highway := rfl
@[simp] theorem State.restart_clock  :
    (s.restart).clock = s.clock := rfl
@[simp] theorem State.restart_tickDue  :
    (s.restart).tickDue = s.tickDue := rfl
@[simp] theorem State.restart_schedule  :
    (s.restart).schedule = s.schedule := rfl
@[simp] theorem State.restart_profiles  :
    (s.restart).profiles = s.profiles := rfl
@[simp] theorem State.restart_groups  :
    (s.restart).groups = s.groups := rfl
@[simp] theorem State.restart_freeDraws  :
    (s.restart).freeDraws = s.freeDraws := rfl
@[simp] theorem State.restart_pending  :
    (s.restart).pending = s.pending := rfl

/-! ### loadClock: what it leaves alone -/

@[simp] theorem State.loadClock_resetAsserted (c : Clock) :
    (s.loadClock c).resetAsserted = s.resetAsserted := by
  simp [State.loadClock]
@[simp] theorem State.loadClock_highway (c : Clock) :
    (s.loadClock c).highway = s.highway := by
  simp [State.loadClock]
@[simp] theorem State.loadClock_schedule (c : Clock) :
    (s.loadClock c).schedule = s.schedule := by
  simp [State.loadClock]
@[simp] theorem State.loadClock_channels (c : Clock) :
    (s.loadClock c).channels = s.channels := by
  simp [State.loadClock]
@[simp] theorem State.loadClock_profiles (c : Clock) :
    (s.loadClock c).profiles = s.profiles := by
  simp [State.loadClock]
@[simp] theorem State.loadClock_groups (c : Clock) :
    (s.loadClock c).groups = s.groups := by
  simp [State.loadClock]
@[simp] theorem State.loadClock_ring (c : Clock) :
    (s.loadClock c).ring = s.ring := by
  simp [State.loadClock]
@[simp] theorem State.loadClock_restartPending (c : Clock) :
    (s.loadClock c).restartPending = s.restartPending := by
  simp [State.loadClock]
@[simp] theorem State.loadClock_freeDraws (c : Clock) :
    (s.loadClock c).freeDraws = s.freeDraws := by
  simp [State.loadClock]
@[simp] theorem State.loadClock_pending (c : Clock) :
    (s.loadClock c).pending = s.pending := by
  simp [State.loadClock]

/-! ### Taking a command (R199, R205, R208) -/

/-! The response moves nothing but its link. -/

@[simp] theorem Reply.send_resetAsserted (r : Reply) (l : Link) (code tag : Byte) :
    (r.send l code tag).resetAsserted = r.state.resetAsserted := rfl
@[simp] theorem Reply.send_highway (r : Reply) (l : Link) (code tag : Byte) :
    (r.send l code tag).highway = r.state.highway := rfl
@[simp] theorem Reply.send_clock (r : Reply) (l : Link) (code tag : Byte) :
    (r.send l code tag).clock = r.state.clock := rfl
@[simp] theorem Reply.send_tickDue (r : Reply) (l : Link) (code tag : Byte) :
    (r.send l code tag).tickDue = r.state.tickDue := rfl
@[simp] theorem Reply.send_schedule (r : Reply) (l : Link) (code tag : Byte) :
    (r.send l code tag).schedule = r.state.schedule := rfl
@[simp] theorem Reply.send_channels (r : Reply) (l : Link) (code tag : Byte) :
    (r.send l code tag).channels = r.state.channels := rfl
@[simp] theorem Reply.send_profiles (r : Reply) (l : Link) (code tag : Byte) :
    (r.send l code tag).profiles = r.state.profiles := rfl
@[simp] theorem Reply.send_groups (r : Reply) (l : Link) (code tag : Byte) :
    (r.send l code tag).groups = r.state.groups := rfl
@[simp] theorem Reply.send_ring (r : Reply) (l : Link) (code tag : Byte) :
    (r.send l code tag).ring = r.state.ring := rfl
@[simp] theorem Reply.send_restartPending (r : Reply) (l : Link) (code tag : Byte) :
    (r.send l code tag).restartPending = r.state.restartPending := rfl
@[simp] theorem Reply.send_freeDraws (r : Reply) (l : Link) (code tag : Byte) :
    (r.send l code tag).freeDraws = r.state.freeDraws := rfl
@[simp] theorem Reply.send_pending (r : Reply) (l : Link) (code tag : Byte) :
    (r.send l code tag).pending = r.state.pending := rfl

section takeCommand

variable {op : Opcode} {l : Link} {tag : Byte} {ps : List Byte} {body : State → Reply} {s : State}

/-- While RESET_N is asserted no command is taken (R199). -/
theorem takeCommand_inReset (h : s.resetAsserted = true) : takeCommand op l tag ps body s = s := by
  simp [takeCommand, h]

/-- On a busy link a frame is an OVERRUN (R205). -/
theorem takeCommand_busy (h : s.resetAsserted = false) (hb : (s.link l).busy = true) :
    takeCommand op l tag ps body s = s.linkError l .overrun := by
  simp [takeCommand, h, hb]

/-- A command that the link does not admit (R208, check 2). -/
theorem takeCommand_notPermitted (h : s.resetAsserted = false) (hb : (s.link l).busy = false)
    (ha : op.admitted l = false) :
    takeCommand op l tag ps body s = (s.refuse .notPermitted).send l op.code tag := by
  simp [takeCommand, h, hb, ha]

/-- A command with a wrong parameter count (R208, check 3). -/
theorem takeCommand_badLength (h : s.resetAsserted = false) (hb : (s.link l).busy = false)
    (ha : op.admitted l = true) (hl : ps.length ≠ op.paramCount l) :
    takeCommand op l tag ps body s = (s.refuse .badLength).send l op.code tag := by
  simp [takeCommand, h, hb, ha, hl]

/-- A command that passes both checks goes to its owning block (R208). -/
theorem takeCommand_taken (h : s.resetAsserted = false) (hb : (s.link l).busy = false)
    (ha : op.admitted l = true) (hl : ps.length = op.paramCount l) :
    takeCommand op l tag ps body s = (body s).send l op.code tag := by
  simp [takeCommand, h, hb, ha, hl]

/-- Everything that taking a command can do. -/
theorem takeCommand_cases (op : Opcode) (l : Link) (tag : Byte) (ps : List Byte) (body : State → Reply)
    (s : State) :
    takeCommand op l tag ps body s = s ∨ takeCommand op l tag ps body s = s.linkError l .overrun ∨
      (∃ r, takeCommand op l tag ps body s = (s.refuse r).send l op.code tag) ∨
      (op.admitted l = true ∧ ps.length = op.paramCount l ∧
        takeCommand op l tag ps body s = (body s).send l op.code tag) := by
  unfold takeCommand
  split
  · exact .inl rfl
  split
  · exact .inr (.inl rfl)
  split
  · exact .inr (.inr (.inl ⟨_, rfl⟩))
  split
  · exact .inr (.inr (.inl ⟨_, rfl⟩))
  · exact .inr (.inr (.inr ⟨by simp_all, by simp_all, rfl⟩))

end takeCommand

/-- What holds of the reply's state holds after the response begins, if nothing in it speaks of the link. -/
theorem Reply.link_send (r : Reply) (l k : Link) (code tag : Byte) :
    (r.send l code tag).link k =
      if l = k then
        { r.state.link l with tx := some (responseFrame code tag r.result r.data), busy := true }
      else r.state.link k := by
  simp [Reply.send, State.link_setLink]

/-! ### The ring (R186, R190) -/

/-- A record handed to a free slot (R186). -/
theorem Ring.put_free {r : Ring} (h : r.slots.get r.writePos = .device) (stamp : Stamp) (l : Link)
    (ch : Option ChannelNo) (p : Payload) :
    r.put stamp l ch p =
      Ring.advance l 1
        { r with slots := r.slots.set r.writePos (.owned l (r.singleRecord stamp l ch p)) } := by
  simp [Ring.put, h, Slot.isDevice]

/-- A record handed to a ring that is blocked at its write position (R186). -/
theorem Ring.put_blocked {r : Ring} (h : r.slots.get r.writePos ≠ .device) (stamp : Stamp) (l : Link)
    (ch : Option ChannelNo) (p : Payload) : r.put stamp l ch p = r.drop l := by
  unfold Ring.put
  cases hs : r.slots.get r.writePos with
  | device => exact absurd hs h
  | owned o x => simp [Slot.isDevice]

@[simp] theorem State.hand_ring (s : State) (l : Link) (ch : Option ChannelNo) (p : Payload) :
    (s.hand l ch p).ring = s.ring.put s.stamp l ch p := rfl
@[simp] theorem State.handEvent_ring (s : State) (ch : Option ChannelNo) (e : Event) :
    (s.handEvent ch e).ring = s.ring.put s.stamp .mLink ch (.event e) := rfl

/-- A hand-over reaches a link as the ring's report (R194). -/
@[simp] theorem State.link_hand (s : State) (l : Link) (ch : Option ChannelNo) (p : Payload) (k : Link) :
    (s.hand l ch p).link k = reportSlots (s.hand l ch p).ring k (s.link k) := by
  simp [State.hand]

/-- Slots fewer than 64 places on from the write position differ when their places do. -/
theorem Ring.slotFrom_inj (r : Ring) {i j : Nat} (hi : i < 64) (hj : j < 64) :
    r.slotFrom i = r.slotFrom j ↔ i = j := by
  simp only [Ring.slotFrom, Fin.mk.injEq]
  have := r.writePos.isLt
  omega

theorem takeWhile_range_length (p : SlotNo → Bool) (f : Nat → SlotNo) :
    ∀ n c a : Nat, c ≤ n → (∀ j, j < c → p (f (a + j)) = true) → (c = n ∨ p (f (a + c)) = false) →
      (((List.range' a n).map f).takeWhile p).length = c := by
  intro n
  induction n with
  | zero => intro c a hc _ _; simp; omega
  | succ n ih =>
    intro c a hc h1 h2
    rw [List.range'_succ, List.map_cons]
    cases c with
    | zero =>
      have h0 : p (f a) = false := by simpa using h2
      simp [h0]
    | succ c =>
      have h0 : p (f a) = true := h1 0 (by omega)
      simp only [List.takeWhile_cons, h0, if_true, List.length_cons]
      rw [ih c (a + 1) (by omega)]
      · intro j hj
        have := h1 (j + 1) (by omega)
        rwa [show a + 1 + j = a + (j + 1) by omega]
      · exact h2.imp (by omega) fun h => by rwa [show a + 1 + c = a + (c + 1) by omega]

/-- The run of device-owned slots ends where R190 says it does. -/
theorem Ring.freeRun_eq (r : Ring) (c : Nat) (hc : c ≤ 64)
    (free : ∀ j, j < c → r.slots.get (r.slotFrom j) = .device)
    (stop : c = 64 ∨ r.slots.get (r.slotFrom c) ≠ .device) : r.freeRun = c := by
  unfold Ring.freeRun Ring.order
  rw [List.range_eq_range']
  refine takeWhile_range_length _ _ 64 c 0 hc (fun j hj => by simp [free j hj, Slot.isDevice])
    (stop.imp_right fun h => ?_)
  cases hs : r.slots.get (r.slotFrom (0 + c)) with
  | device => exact absurd (by simpa using hs) h
  | owned o x => rfl

/-- The slots after the first `m` of a capture's are written (R190). -/
theorem Ring.captureSlots_get (r : Ring) (stamp : Stamp) (ch : ChannelNo) (c : Channel) (n w : Nat) :
    ∀ m, m ≤ 64 → ∀ j, j < 64 →
      (r.captureSlots stamp ch c n w m).get (r.slotFrom j) =
        if j < m then .owned .mLink (r.captureRecord stamp ch c n w j)
        else r.slots.get (r.slotFrom j) := by
  intro m
  induction m with
  | zero => intro _ j _; simp [Ring.captureSlots]
  | succ m ih =>
    intro hm j hj
    rw [Ring.captureSlots, Table.get_set, ih (by omega) j hj]
    by_cases e : m = j
    · subst e; simp
    · rw [if_neg (by rw [Ring.slotFrom_inj _ (by omega) hj]; exact e)]
      by_cases hl : j < m
      · rw [if_pos hl, if_pos (by omega)]
      · rw [if_neg hl, if_neg (by omega)]

/-! ### regroup: what it does (R149, R151) -/

theorem State.regroup_groups (s : State) (g k : GroupNo) (stack : List ProfileNo) (scheduled : ProfileNo) :
    (s.regroup g stack scheduled).groups.get k =
      if g = k then
        { s.groups.get g with
          stack := stack, scheduled := scheduled, applied := appliedOf stack scheduled }
      else s.groups.get k := by
  unfold State.regroup
  dsimp only
  split
  · simp [State.setGroup, Table.get_set]
  · simp [State.setGroup, Table.get_set, State.applyWhere, State.mapChans]

theorem State.regroup_chan (s : State) (g : GroupNo) (ch : ChannelNo) (stack : List ProfileNo)
    (scheduled : ProfileNo) :
    (s.regroup g stack scheduled).chan ch =
      if (s.chan ch).group = g ∧ appliedOf stack scheduled ≠ (s.groups.get g).applied then
        Channel.applyProfile (appliedOf stack scheduled) (s.fieldsOf (appliedOf stack scheduled))
          (s.chan ch)
      else s.chan ch := by
  unfold State.regroup
  dsimp only
  split
  · rename_i h
    simp only [h]
    simp
    rfl
  · rename_i h
    simp only [State.applyWhere, State.chan_mapChans, beq_iff_eq]
    show (if (s.chan ch).group = g then _ else s.chan ch) = _
    by_cases e : (s.chan ch).group = g <;> simp [e, h]
    rfl

end Sys2Proof.Machine
end

