-- ==== Sys2Proof/Laws/Effects.lean ====
section
/-! SUPPORT. What a command can do to the state, said once: every command's next state is reached by a chain of the
changes of `Effect`. A law that each of them keeps is kept by every step (`step_keeps`). -/

namespace Sys2Proof.Machine

/-- The changes of which every command is made. -/
inductive Effect : State → State → Prop
  | refl (s : State) : Effect s s
  | trans {s t u : State} : Effect s t → Effect t u → Effect s u
  /-- reset (R199) -/
  | assertReset (s : State) :
    Effect s
      { State.reset with
        resetAsserted := true, links := ⟨LinkCtl.inReset, LinkCtl.inReset⟩, freeDraws := s.freeDraws,
        pending := s.pending }
  | releaseReset (s : State) :
    Effect s { State.reset with freeDraws := s.freeDraws, pending := s.pending }
  /-- the restart (R201) -/
  | restart (s : State) : Effect s s.restart
  /-- link controllers (chapter 10) -/
  | receiver (s : State) (l : Link) (rx : Receiver) : Effect s (s.setRx l rx)
  | response (s : State) (l : Link) (frame : List Byte) :
    Effect s (s.setLink l { s.link l with tx := some frame, busy := true })
  | restartResponse (s : State) (frame : List Byte) :
    Effect s
      (State.setLink { s with restartPending := true } .mLink
        { s.link .mLink with tx := some frame, busy := true })
  | sent (s : State) (l : Link) (h : s.restartsNow l = false) :
    Effect s (s.setLink l (s.link l).endResponse)
  | base (s : State) (l : Link) (b : ChannelNo) : Effect s (s.setLink l { s.link l with base := b })
  | mask (s : State) (l : Link) (m : Fin 7) :
    Effect s (s.setLink l (LinkCtl.refresh l { s.link l with mask := m }))
  | conditions (s : State) (l : Link) (f : Conditions → Conditions)
      (h : ∀ c, (f c).owned = c.owned ∧ (f c).oldest = c.oldest) : Effect s (s.modifyConds l f)
  /-- the record ring (chapter 9) -/
  | hand (s : State) (l : Link) (ch : Option ChannelNo) (p : Payload) : Effect s (s.hand l ch p)
  | capture (s : State) (ch : ChannelNo) :
    Effect s (s.withRing (s.ring.putCapture s.stamp ch (s.chan ch)))
  | free (s : State) (i : SlotNo) : Effect s (s.withRing (s.ring.free i))
  /-- custody (chapter 6) -/
  | start (s : State) (ch : ChannelNo) (k : Custody)
      (h : k = .test ∨ ∃ r o, k = .call r o false ∧ r ≠ 0 ∧ r ≤ 65535 ∧ s.refInUse r = false) :
    Effect s (s.setChan ch { (s.chan ch).startClear with custody := k })
  | recustody (s : State) (ch : ChannelNo) (k : Custody)
      (hr : ∀ ref, ({ s.chan ch with custody := k } : Channel).holdsRef ref = true →
        (s.chan ch).holdsRef ref = true)
      (ha : ({ s.chan ch with custody := k } : Channel).active = true → (s.chan ch).active = true) :
    Effect s (s.setChan ch { s.chan ch with custody := k })
  | clearSignal (s : State) (ch : ChannelNo) : Effect s (s.setChan ch (s.chan ch).clearSignal)
  | captureMark (s : State) (ch : ChannelNo) :
    Effect s (s.setChan ch { s.chan ch with capturePending := true })
  | flag (s : State) (ch : ChannelNo) (f : FlagName) (v : Bool) : Effect s (s.putFlag ch f v)
  | field (s : State) (first : ChannelNo) (n : Nat) (f : FlagName) (v : BitVec 16) :
    Effect s (s.putField first n f v)
  | assign (s : State) (ch : ChannelNo) (g : GroupNo) : Effect s (s.assign ch g)
  /-- profiles and groups (chapter 7) -/
  | hold (s : State) (p : ProfileNo) (h : p ≠ 0) :
    Effect s (s.setProfile p { fields := s.fieldsOf p, held := true })
  | writeFields (s : State) (p : ProfileNo) (v : ParamSet) (h : p ≠ 0) (hv : v.valid = true) :
    Effect s (s.setProfile p { fields := v, held := true })
  | resume (s : State) (p : ProfileNo) (h : s.heldOf p = true) :
    Effect s
      ((s.setProfile p { fields := s.fieldsOf p, held := false }).applyWhere p fun c => c.profile == p)
  | groupDefault (s : State) (g : GroupNo) (p : ProfileNo) :
    Effect s (s.setGroup g { s.groups.get g with default := p })
  | regroup (s : State) (g : GroupNo) (stack : List ProfileNo) (scheduled : ProfileNo)
      (h : stack.length ≤ max 4 (s.groups.get g).stack.length) : Effect s (s.regroup g stack scheduled)
  /-- clock and schedule (chapter 8) -/
  | loadClock (s : State) (c : Clock) (h : c.valid = true) (hf : c.fis = 0) : Effect s (s.loadClock c)
  | tick (s : State) (h : s.tickDue = true) :
    Effect s { s.mapChans Channel.countSecond with clock := s.clock.tick, tickDue := false }
  | setEntry (s : State) (i : EntryNo) (e : Entry) : Effect s (s.setEntry i e)
  | drawn (s : State) (n : Nat) : Effect s { s with freeDraws := n }
  /-- the highway (chapter 1) -/
  | pulse (s : State) (p : Pulse) (h : s.highway.lock ≠ .locked) (hr : s.highway.runAfter p < 8) :
    Effect s (s.countPulse p)
  | lockedPulse (s : State) (p : Pulse) (h : s.highway.lock = .locked) : Effect s (s.lockedPulse p)
  | pulseTimeout (s : State) (h : s.highway.lock ≠ .locked) :
    Effect s { s with highway := { s.highway with goodRun := 0 } }
  | bclkStopped (s : State) (k : Option Nat) :
    Effect s { s with highway := { s.highway with bclkStop := k } }
  | frameBegins (s : State) (n : Nat) (h : s.highway.lock = .locked) (hn : n ≤ 2) :
    Effect s (s.advanceFrame n)
  | opens (s : State) (p : Pulse) : Effect s (s.enterLocked p)
  | restored (s : State) (h : s.highway.lock ≠ .locked) : Effect s (s.mapChans Channel.restore)
  | silenced (s : State) :
    Effect s
      { s.mapChans Channel.loseFrame with
        highway :=
          { s.highway with
            lock := .lost, goodRun := 0, badRun := 3, expected := none, misplaced := false,
            bclkStop := none }
        clock := { s.clock with state := s.clock.state.atLoss }
        tickDue := false }
  | sample (s : State) (ch : ChannelNo) (t x : BitVec 16) (h : s.highway.lock = .locked) :
    Effect s
      (s.setChan ch
        (Channel.frame (s.heldOf (s.chan ch).profile) s.highway.blockEndFrame t.toInt x.toInt
          (s.chan ch)))
  | closed (s : State) (ch : ChannelNo) (c : Channel) (h : c = s.chan ch) :
    Effect s (s.setChan ch (Channel.closeBlock (s.heldOf c.profile) c))

namespace Effect

/-! ### Chains -/

theorem error (s : State) (l : Link) (k : LinkErrorKind) : Effect s (s.linkError l k) :=
  .conditions s l _ fun c => by unfold Conditions.raiseLinkError; split <;> exact ⟨rfl, rfl⟩

theorem handEvent (s : State) (ch : Option ChannelNo) (e : Event) : Effect s (s.handEvent ch e) := .hand ..

theorem handEvent? (s : State) (ch : Option ChannelNo) (e : Option Event) : Effect s (s.handEvent? ch e) := by
  cases e
  · exact .refl s
  · exact .hand ..

theorem send (r : Reply) (l : Link) (code tag : Byte) : Effect r.state (r.send l code tag) := .response ..

/-- A command is taken: what its owning block does, then the response. -/
theorem command {op : Opcode} {l : Link} {tag : Byte} {ps : List Byte} {body : State → Reply} {s : State}
    (h : Effect s (body s).state) : Effect s (takeCommand op l tag ps body s) := by
  rcases takeCommand_cases op l tag ps body s with e | e | ⟨r, e⟩ | ⟨-, -, e⟩ <;> rw [e]
  · exact .refl s
  · exact error ..
  · exact send (s.refuse r) ..
  · exact h.trans (send ..)

theorem channelChecked {b : Byte} {s : State} {k : ChannelNo → Reply} (h : ∀ ch, Effect s (k ch).state) :
    Effect s (withChannel b s k).state := by
  unfold withChannel
  split
  · exact h _
  · exact .refl s

theorem numberChecked {n : Nat} {b : Byte} {s : State} {k : Fin n → Reply}
    (h : ∀ i, Effect s (k i).state) : Effect s (withNumber n b s k).state := by
  unfold withNumber
  split
  · exact h _
  · exact .refl s

theorem writableChecked {b : Byte} {s : State} {k : ProfileNo → Reply}
    (h : ∀ p, p ≠ 0 → Effect s (k p).state) : Effect s (withWritable b s k).state :=
  numberChecked fun p => by
    split
    · exact .refl s
    · exact h p ‹_›

theorem callChecked {ch : ChannelNo} {ref : Nat} {s : State} {k : CallOptions → Bool → Reply}
    (h : ∀ o b, (s.chan ch).custody = .call ref o b → Effect s (k o b).state) :
    Effect s (withCall ch ref s k).state := by
  unfold withCall
  split
  · split
    · rename_i e r
      subst r
      exact h _ _ e
    · exact .refl s
  · exact .refl s
  · exact .refl s

theorem flagChecked {l : Link} {d f : Byte} {s : State} {k : ChannelNo → FlagName → Reply}
    (h : ∀ ch flag, Effect s (k ch flag).state) : Effect s (withFlag l d f s k).state := by
  unfold withFlag
  split
  · exact .refl s
  split
  · exact .refl s
  split
  · exact .refl s
  · exact h _ _

theorem fieldChecked {l : Link} {d n f : Byte} {s : State} {k : ChannelNo → Nat → FlagName → Reply}
    (h : ∀ ch m flag, Effect s (k ch m flag).state) : Effect s (withField l d n f s k).state := by
  unfold withField
  split
  · exact .refl s
  split
  · exact .refl s
  split
  · exact .refl s
  split
  · exact .refl s
  · exact h _ _ _

theorem endCall (s : State) (ch : ChannelNo) (why : EndReason) {ref : Nat} {o : CallOptions} {b : Bool}
    (h : (s.chan ch).custody = .call ref o b) : Effect s (s.endCall ch why) := by
  have hs : (s.chan ch) = ((s.handSummary .cLink ch why).chan ch) := rfl
  have told : Effect s (s.handSummary .cLink ch why) := .hand ..
  unfold State.endCall
  cases b with
  | false =>
    have e : (s.chan ch).blockPending = false := by simp [Channel.blockPending, h]
    simp only [e, Channel.leaveCall, Bool.false_eq_true, if_false]
    exact told.trans (.recustody _ ch .idle (by simp [Channel.holdsRef]) (by simp [Channel.active]))
  | true =>
    have e : (s.chan ch).blockPending = true := by simp [Channel.blockPending, h]
    simp only [e, Channel.leaveCall, if_true]
    exact (told.trans (.start _ ch .test (.inl rfl))).trans
      (.conditions _ _ _ fun _ => ⟨rfl, rfl⟩)

theorem restack (s : State) (g : GroupNo) (stack : List ProfileNo)
    (h : stack.length ≤ max 4 (s.groups.get g).stack.length) : Effect s (s.restack g stack) :=
  (Effect.regroup s g stack _ h).trans (handEvent? ..)

theorem evaluate (s : State) : Effect s s.evaluate := by
  have : ∀ (gs : List GroupNo) (s : State), Effect s (gs.foldl State.evaluateGroup s) := by
    intro gs
    induction gs with
    | nil => exact fun s => .refl s
    | cons g gs ih => exact fun s => (Effect.regroup s g _ _ (le_max_right ..)).trans (ih _)
  exact this ..

theorem handAll (es : List (GroupNo × Event)) (s : State) : Effect s (s.handAll es) := by
  induction es generalizing s with
  | nil => exact .refl s
  | cons e es ih => exact (handEvent s none e.2).trans (ih _)

theorem secondTick (s : State) (h : s.tickDue = true) : Effect s s.secondTick :=
  (((Effect.tick s h).trans (evaluate _)).trans (handAll ..)).trans (.drawn ..)

theorem blockEnd (s : State) (ch : ChannelNo) : Effect s (s.blockEnd ch) := by
  unfold State.blockEnd
  dsimp only
  refine .trans ?_ (handEvent? ..)
  have close : Effect s
      ((if (s.chan ch).capturePending then s.withRing (s.ring.putCapture s.stamp ch (s.chan ch))
        else s).setChan ch (Channel.closeBlock (s.heldOf (s.chan ch).profile) (s.chan ch))) := by
    split
    · exact (Effect.capture s ch).trans (.closed _ ch _ rfl)
    · exact .closed s ch _ rfl
  split
  · exact close.trans (handEvent ..)
  · exact close

theorem enterLost (s : State) : Effect s s.enterLost :=
  (((Effect.silenced s).trans
    (Effect.conditions _ .cLink Conditions.raiseFault fun _ => ⟨rfl, rfl⟩)).trans
    (Effect.conditions _ .mLink
      (fun c => if s.clock.state = .set then c.raiseFault.raiseClockAlert else c.raiseFault)
      fun c => by split <;> exact ⟨rfl, rfl⟩)).trans (handEvent _ none .highwayLost)

/-! ### Every command -/

section commands

variable (l : Link) (tag : Byte) (ps : List Byte) (s : State)

theorem readAttention_body : Effect s (Sys2Proof.Machine.readAttention l ps s).state := by
  unfold readAttention
  split
  · exact .conditions _ _ _ fun _ => ⟨rfl, rfl⟩
  · exact .refl s

theorem setAttentionMask_body : Effect s (Sys2Proof.Machine.setAttentionMask l ps s).state := by
  unfold setAttentionMask
  split
  · exact numberChecked fun m => .mask s l m
  · exact .refl s

/-- DEVICE RESTART: the response begins, and the restart waits for its end. -/
theorem deviceRestart_taken : Effect s (takeCommand .deviceRestart l tag ps (deviceRestart ps) s) := by
  rcases takeCommand_cases .deviceRestart l tag ps (deviceRestart ps) s with e | e | ⟨r, e⟩ | ⟨ha, -, e⟩ <;>
    rw [e]
  · exact .refl s
  · exact error ..
  · exact send (s.refuse r) ..
  · cases l with
    | cLink => simp [Opcode.admitted] at ha
    | mLink =>
      unfold deviceRestart
      split
      · exact .restartResponse s _
      · exact send (s.refuse _) ..

theorem seize_body : Effect s (Sys2Proof.Machine.seize ps s).state := by
  unfold Sys2Proof.Machine.seize
  split
  · rename_i b r1 r0 o
    refine channelChecked fun ch => ?_
    split
    · exact .refl s
    · dsimp only
      split
      · exact .refl s
      · split
        · exact .refl s
        · exact .refl s
        · split
          · exact .refl s
          · rename_i h0 _ _ hr
            refine .start s ch _ (.inr ⟨_, _, rfl, h0, ?_, by simpa using hr⟩)
            have := r1.isLt
            have := r0.isLt
            unfold u16
            omega
  · exact .refl s

theorem clearCall_body : Effect s (Sys2Proof.Machine.clearCall ps s).state := by
  unfold clearCall
  split
  · refine channelChecked fun ch => ?_
    split
    · exact .refl s
    · exact callChecked fun o b e => endCall s ch _ e
  · exact .refl s

theorem modifyCall_body : Effect s (Sys2Proof.Machine.modifyCall ps s).state := by
  unfold modifyCall
  split
  · refine channelChecked fun ch => ?_
    split
    · exact .refl s
    · dsimp only
      split
      · exact .refl s
      · refine callChecked fun o b e => .recustody s ch _ ?_ ?_
        · simp [Channel.holdsRef, e]
        · simp [Channel.active, e]
  · exact .refl s

theorem blockChannel_body : Effect s (Sys2Proof.Machine.blockChannel ps s).state := by
  unfold blockChannel
  split
  · refine channelChecked fun ch => ?_
    split
    · exact .start s ch _ (.inl rfl)
    · rename_i e
      exact .recustody s ch _ (by simp [Channel.holdsRef, e]) (by simp [Channel.active, e])
    · exact .refl s
    · exact .refl s
  · exact .refl s

theorem unblockChannel_body : Effect s (Sys2Proof.Machine.unblockChannel ps s).state := by
  unfold unblockChannel
  split
  · refine channelChecked fun ch => ?_
    split
    · exact .refl s
    · rename_i e
      exact .recustody s ch _ (by simp [Channel.holdsRef, e]) (by simp [Channel.active, e])
    · exact .refl s
    · exact .trans (.hand s .mLink _ _)
        (.recustody _ ch .idle (by simp [Channel.holdsRef]) (by simp [Channel.active]))
  · exact .refl s

theorem forceRelease_body : Effect s (Sys2Proof.Machine.forceRelease ps s).state := by
  unfold forceRelease
  split
  · refine channelChecked fun ch => ?_
    split
    · rename_i e
      exact (endCall s ch .forced e).trans (.conditions _ _ _ fun _ => ⟨rfl, rfl⟩)
    · exact .refl s
    · exact .refl s
  · exact .refl s

theorem restartChannel_body : Effect s (Sys2Proof.Machine.restartChannel l ps s).state := by
  unfold restartChannel
  split
  · refine channelChecked fun ch => ?_
    split
    · exact .refl s
    · exact callChecked fun _ _ _ => .clearSignal s ch
  · refine channelChecked fun ch => ?_
    split
    · exact .clearSignal s ch
    · exact .refl s
  · exact .refl s

theorem readChannel_body : Effect s (Sys2Proof.Machine.readChannel ps s).state := by
  unfold readChannel
  split
  · exact channelChecked fun _ => .refl s
  · exact .refl s

theorem assignChannel_body : Effect s (Sys2Proof.Machine.assignChannel ps s).state := by
  unfold assignChannel
  split
  · refine channelChecked fun ch => numberChecked fun g => ?_
    split
    · exact .refl s
    · exact .assign s ch g
    · exact .assign s ch g
  · exact .refl s

theorem setBase_body : Effect s (Sys2Proof.Machine.setBase l ps s).state := by
  unfold setBase
  split
  · exact channelChecked fun b => .base s l b
  · exact .refl s

theorem flagSet_body : Effect s (Sys2Proof.Machine.flagSet l ps s).state := by
  unfold flagSet
  split
  · exact flagChecked fun ch f => .flag s ch f true
  · exact .refl s

theorem flagClear_body : Effect s (Sys2Proof.Machine.flagClear l ps s).state := by
  unfold flagClear
  split
  · exact flagChecked fun ch f => .flag s ch f false
  · exact .refl s

theorem flagTest_body : Effect s (Sys2Proof.Machine.flagTest l ps s).state := by
  unfold flagTest
  split
  · exact flagChecked fun _ _ => .refl s
  · exact .refl s

theorem fieldWrite_body : Effect s (Sys2Proof.Machine.fieldWrite l ps s).state := by
  unfold fieldWrite
  split
  · refine fieldChecked fun ch n f => ?_
    split
    · exact .field s ch n f _
    · exact .refl s
  · exact .refl s

theorem fieldRead_body : Effect s (Sys2Proof.Machine.fieldRead l ps s).state := by
  unfold fieldRead
  split
  · exact fieldChecked fun _ _ _ => .refl s
  · exact .refl s

theorem holdProfile_body : Effect s (Sys2Proof.Machine.holdProfile ps s).state := by
  unfold holdProfile
  split
  · refine writableChecked fun p hp => ?_
    split
    · exact .refl s
    · exact .hold s p hp
  · exact .refl s

theorem writeProfile_body : Effect s (Sys2Proof.Machine.writeProfile ps s).state := by
  unfold writeProfile
  split
  · refine writableChecked fun p hp => ?_
    split
    · exact .refl s
    · rename_i v e
      split
      · refine .writeFields s p v hp ?_
        unfold parseProfileFields at e
        split at e
        · simp only [Option.bind_eq_bind, Option.bind_eq_some_iff] at e
          obtain ⟨_, _, _, _, _, _, e⟩ := e
          split at e
          · cases e
            assumption
          · exact absurd e (by simp)
        · exact absurd e (by simp)
      · exact .refl s
  · exact .refl s

theorem resumeProfile_body : Effect s (Sys2Proof.Machine.resumeProfile ps s).state := by
  unfold resumeProfile
  split
  · refine numberChecked fun p => ?_
    split
    · exact .resume s p ‹_›
    · exact .refl s
  · exact .refl s

theorem readProfile_body : Effect s (Sys2Proof.Machine.readProfile ps s).state := by
  unfold readProfile
  split
  · exact numberChecked fun _ => .refl s
  · exact .refl s

theorem writeGroup_body : Effect s (Sys2Proof.Machine.writeGroup ps s).state := by
  unfold writeGroup
  split
  · exact numberChecked fun g => numberChecked fun p => .groupDefault s g p
  · exact .refl s

theorem readGroup_body : Effect s (Sys2Proof.Machine.readGroup ps s).state := by
  unfold readGroup
  split
  · exact numberChecked fun _ => .refl s
  · exact .refl s

theorem overridePush_body : Effect s (Sys2Proof.Machine.overridePush ps s).state := by
  unfold overridePush
  split
  · refine numberChecked fun g => numberChecked fun p => ?_
    split
    · exact .refl s
    · exact restack s g _ (by simp; omega)
  · exact .refl s

theorem overridePop_body : Effect s (Sys2Proof.Machine.overridePop ps s).state := by
  unfold overridePop
  split
  · refine numberChecked fun g => ?_
    split
    · exact .refl s
    · exact restack s g _ (by simp)
  · exact .refl s

theorem timeSet_body : Effect s (Sys2Proof.Machine.timeSet ps s).state := by
  unfold timeSet
  split
  · split
    · exact .refl s
    · rename_i c e
      unfold parseTime at e
      dsimp only at e
      split at e
      · cases e
        exact .loadClock s _ ‹_› rfl
      · exact absurd e (by simp)
  · exact .refl s

theorem timeRead_body : Effect s (Sys2Proof.Machine.timeRead ps s).state := by
  unfold timeRead
  split <;> exact .refl s

theorem writeEntry_body : Effect s (Sys2Proof.Machine.writeEntry ps s).state := by
  unfold writeEntry
  split
  · refine numberChecked fun i => ?_
    split
    · exact .refl s
    · exact .setEntry s i _
  · exact .refl s

theorem eraseEntry_body : Effect s (Sys2Proof.Machine.eraseEntry ps s).state := by
  unfold eraseEntry
  split
  · exact numberChecked fun i => .setEntry s i _
  · exact .refl s

theorem readEntry_body : Effect s (Sys2Proof.Machine.readEntry ps s).state := by
  unfold readEntry
  split
  · exact numberChecked fun _ => .refl s
  · exact .refl s

theorem readSlot_body : Effect s (Sys2Proof.Machine.readSlot l ps s).state := by
  unfold readSlot
  split
  · refine numberChecked fun i => ?_
    unfold withOwned
    split
    · exact .refl s
    · split <;> exact .refl s
  · exact .refl s

theorem returnSlot_body : Effect s (Sys2Proof.Machine.returnSlot l ps s).state := by
  unfold returnSlot
  split
  · refine numberChecked fun i => ?_
    unfold withOwned
    split
    · exact .refl s
    · split
      · exact .free s i
      · exact .refl s
  · exact .refl s

theorem requestCapture_body : Effect s (Sys2Proof.Machine.requestCapture ps s).state := by
  unfold requestCapture
  split
  · refine channelChecked fun ch => ?_
    split
    · exact .captureMark s ch
    · exact .refl s
  · exact .refl s

/-- What an opcode's command answers. -/
theorem opcode (op : Opcode) (t : State) (h : exec (op.instr l tag ps) s = .next t) : Effect s t := by
  have : ∃ u, exec (op.instr l tag ps) s = .next u ∧ Effect s u := by
    cases op with
    | readAttention => exact ⟨_, rfl, command (readAttention_body l ps s)⟩
    | setAttentionMask => exact ⟨_, rfl, command (setAttentionMask_body l ps s)⟩
    | deviceRestart => exact ⟨_, rfl, deviceRestart_taken l tag ps s⟩
    | seize => exact ⟨_, rfl, command (seize_body ps s)⟩
    | clear => exact ⟨_, rfl, command (clearCall_body ps s)⟩
    | modifyCall => exact ⟨_, rfl, command (modifyCall_body ps s)⟩
    | block => exact ⟨_, rfl, command (blockChannel_body ps s)⟩
    | unblock => exact ⟨_, rfl, command (unblockChannel_body ps s)⟩
    | forceRelease => exact ⟨_, rfl, command (forceRelease_body ps s)⟩
    | restartChannel => exact ⟨_, rfl, command (restartChannel_body l ps s)⟩
    | readChannel => exact ⟨_, rfl, command (readChannel_body ps s)⟩
    | assignChannel => exact ⟨_, rfl, command (assignChannel_body ps s)⟩
    | setBase => exact ⟨_, rfl, command (setBase_body l ps s)⟩
    | flagSet => exact ⟨_, rfl, command (flagSet_body l ps s)⟩
    | flagClear => exact ⟨_, rfl, command (flagClear_body l ps s)⟩
    | flagTest => exact ⟨_, rfl, command (flagTest_body l ps s)⟩
    | fieldWrite => exact ⟨_, rfl, command (fieldWrite_body l ps s)⟩
    | fieldRead => exact ⟨_, rfl, command (fieldRead_body l ps s)⟩
    | holdProfile => exact ⟨_, rfl, command (holdProfile_body ps s)⟩
    | writeProfile => exact ⟨_, rfl, command (writeProfile_body ps s)⟩
    | resumeProfile => exact ⟨_, rfl, command (resumeProfile_body ps s)⟩
    | readProfile => exact ⟨_, rfl, command (readProfile_body ps s)⟩
    | writeGroup => exact ⟨_, rfl, command (writeGroup_body ps s)⟩
    | readGroup => exact ⟨_, rfl, command (readGroup_body ps s)⟩
    | overridePush => exact ⟨_, rfl, command (overridePush_body ps s)⟩
    | overridePop => exact ⟨_, rfl, command (overridePop_body ps s)⟩
    | timeSet => exact ⟨_, rfl, command (timeSet_body ps s)⟩
    | timeRead => exact ⟨_, rfl, command (timeRead_body ps s)⟩
    | writeEntry => exact ⟨_, rfl, command (writeEntry_body ps s)⟩
    | eraseEntry => exact ⟨_, rfl, command (eraseEntry_body ps s)⟩
    | readEntry => exact ⟨_, rfl, command (readEntry_body ps s)⟩
    | readSlot => exact ⟨_, rfl, command (readSlot_body l ps s)⟩
    | returnSlot => exact ⟨_, rfl, command (returnSlot_body l ps s)⟩
    | requestCapture => exact ⟨_, rfl, command (requestCapture_body ps s)⟩
  obtain ⟨u, e, hu⟩ := this
  rw [e] at h
  injection h with h
  exact h ▸ hu

end commands

theorem runOpcode_eq (op : Opcode) (l : Link) (tag : Byte) (ps : List Byte) (s : State) :
    runOpcode op l tag ps s = exec (op.instr l tag ps) s := by cases op <;> rfl

theorem unknown (l : Link) (code tag : Byte) (s : State) : Effect s (s.takeUnknown l code tag) := by
  unfold State.takeUnknown
  split
  · exact .refl s
  split
  · exact error ..
  · exact send (s.refuse .unknownCommand) ..

/-- A frame that is taken. -/
theorem frameTaken (l : Link) (code tag : Byte) (ps : List Byte) (s t : State)
    (h : takeFrame l code tag ps s = .next t) : Effect s t := by
  unfold takeFrame at h
  split at h
  · rw [runOpcode_eq] at h
    exact opcode _ _ _ _ _ _ h
  · unfold execUnknownCommand at h
    split at h
    · exact absurd h (by simp)
    · cases h
      exact unknown ..

/-- A byte that arrives. -/
theorem byteTaken (l : Link) (b : Byte) (s t : State) (h : execReceiveByte l b s = .next t) : Effect s t := by
  unfold execReceiveByte extendFrame judgeFrame at h
  repeat' split at h
  all_goals first
    | (cases h; first | exact .refl s | exact .receiver .. | exact (Effect.receiver ..).trans (error ..))
    | exact (Effect.receiver ..).trans (frameTaken _ _ _ _ _ _ h)

/-- Every command. -/
theorem of_exec {c : Instr} {s t : State} (h : exec c s = .next t) : Effect s t := by
  cases c
  case resetAssert => cases h; exact .assertReset s
  case resetRelease =>
    cases h
    split
    · exact .releaseReset s
    · exact .refl s
  case fsyncPulse bit ns =>
    cases h
    split
    · exact .refl s
    · split
      · exact .lockedPulse s _ ‹_›
      · rename_i hl
        split
        · exact .opens s _
        · exact .pulse s _ (by simp [hl]) (by omega)
      · rename_i hl
        split
        · exact ((Effect.restored s (by simp [hl])).trans (handEvent ..)).trans (.opens _ _)
        · exact .pulse s _ (by simp [hl]) (by omega)
  case pulseTimeout =>
    cases h
    split
    · exact .refl s
    · exact .pulseTimeout s (by simp_all)
  case bclkStopped k =>
    cases h
    split
    · exact .refl s
    · exact .bclkStopped s _
  case expectedPosition fsync =>
    cases h
    split
    · exact .refl s
    · rename_i hl
      have hl : s.highway.lock = .locked := by simp_all
      split
      · exact .frameBegins s 0 hl (by omega)
      split
      · exact .frameBegins s _ hl (by omega)
      · exact enterLost s
  case frameEvent ch t x =>
    cases h
    split
    · exact .refl s
    · rename_i hl
      exact .sample s ch _ _ (by simp_all)
  case blockEnd ch =>
    cases h
    split
    · exact .refl s
    · exact blockEnd s ch
  case secondTick =>
    cases h
    split
    · exact .refl s
    · rename_i hl
      exact secondTick s (by simp_all)
  case receiveByte l b => exact byteTaken l b s t h
  case gapTimerExpiry l =>
    cases h
    split
    · exact .refl s
    · split
      · exact .receiver ..
      · exact .receiver ..
      · exact .refl s
      · exact (Effect.receiver ..).trans (error ..)
  case responseSent l =>
    cases h
    split
    · exact .refl s
    split
    · exact .restart s
    · exact .sent s l (by simp_all)
  case unknownCommand l code tag ps =>
    simp only [exec, execUnknownCommand] at h
    split at h
    · exact absurd h (by simp)
    · cases h
      exact unknown ..
  case restartInstant =>
    cases h
    split
    · exact .refl s
    · exact .restart s
  case readAttention l tag ps => exact opcode l tag ps s .readAttention t h
  case setAttentionMask l tag ps => exact opcode l tag ps s .setAttentionMask t h
  case deviceRestart l tag ps => exact opcode l tag ps s .deviceRestart t h
  case seize l tag ps => exact opcode l tag ps s .seize t h
  case clear l tag ps => exact opcode l tag ps s .clear t h
  case modifyCall l tag ps => exact opcode l tag ps s .modifyCall t h
  case block l tag ps => exact opcode l tag ps s .block t h
  case unblock l tag ps => exact opcode l tag ps s .unblock t h
  case forceRelease l tag ps => exact opcode l tag ps s .forceRelease t h
  case restartChannel l tag ps => exact opcode l tag ps s .restartChannel t h
  case readChannel l tag ps => exact opcode l tag ps s .readChannel t h
  case assignChannel l tag ps => exact opcode l tag ps s .assignChannel t h
  case setBase l tag ps => exact opcode l tag ps s .setBase t h
  case flagSet l tag ps => exact opcode l tag ps s .flagSet t h
  case flagClear l tag ps => exact opcode l tag ps s .flagClear t h
  case flagTest l tag ps => exact opcode l tag ps s .flagTest t h
  case fieldWrite l tag ps => exact opcode l tag ps s .fieldWrite t h
  case fieldRead l tag ps => exact opcode l tag ps s .fieldRead t h
  case holdProfile l tag ps => exact opcode l tag ps s .holdProfile t h
  case writeProfile l tag ps => exact opcode l tag ps s .writeProfile t h
  case resumeProfile l tag ps => exact opcode l tag ps s .resumeProfile t h
  case readProfile l tag ps => exact opcode l tag ps s .readProfile t h
  case writeGroup l tag ps => exact opcode l tag ps s .writeGroup t h
  case readGroup l tag ps => exact opcode l tag ps s .readGroup t h
  case overridePush l tag ps => exact opcode l tag ps s .overridePush t h
  case overridePop l tag ps => exact opcode l tag ps s .overridePop t h
  case timeSet l tag ps => exact opcode l tag ps s .timeSet t h
  case timeRead l tag ps => exact opcode l tag ps s .timeRead t h
  case writeEntry l tag ps => exact opcode l tag ps s .writeEntry t h
  case eraseEntry l tag ps => exact opcode l tag ps s .eraseEntry t h
  case readEntry l tag ps => exact opcode l tag ps s .readEntry t h
  case readSlot l tag ps => exact opcode l tag ps s .readSlot t h
  case returnSlot l tag ps => exact opcode l tag ps s .returnSlot t h
  case requestCapture l tag ps => exact opcode l tag ps s .requestCapture t h

end Effect

/-- A law that every effect keeps, and that says nothing of the queue, is kept by every step. -/
theorem step_keeps {P : State → Prop} (hq : ∀ s q, P s → P (s.withPending q))
    (hP : ∀ s t, Effect s t → P s → P t) {s t : State} (hs : P s) (h : step s = .next t) : P t := by
  unfold step at h
  split at h
  · cases h
    exact hs
  · exact hP _ _ (Effect.of_exec h) (hq _ _ hs)

end Sys2Proof.Machine
end

