-- ==== Sys2Proof/Laws/Signal.lean ====
section
/-! SUPPORT. The canceller's lists read place by place: the window's energy, peak and tap sum as sums over k, the
history after a sample, and the taps after adaptation. -/

namespace Sys2Proof.Machine

theorem getD_drop (xs : List Int) (d k : Nat) : (xs.drop d).getD k 0 = xs.getD (d + k) 0 := by
  simp [List.getD_eq_getElem?_getD, List.getElem?_drop]

/-- The sum of squares over the first `w` places; places past the end hold nothing. -/
theorem sumSquares_take (xs : List Int) (w : Nat) :
    sumSquares (xs.take w) = ∑ k ∈ Finset.range w, (xs.getD k 0).natAbs ^ 2 := by
  induction w generalizing xs with
  | zero => simp [sumSquares]
  | succ w ih =>
    cases xs with
    | nil => simp [sumSquares]
    | cons x xs =>
      rw [Finset.sum_range_succ']
      simp only [List.take_succ_cons, List.getD_cons_succ, List.getD_cons_zero]
      rw [← ih xs]
      simp [sumSquares, sq, Nat.add_comm]

/-- The largest magnitude over the first `w` places. -/
theorem largestMagnitude_take (xs : List Int) (w : Nat) :
    largestMagnitude (xs.take w) = (Finset.range w).sup fun k => (xs.getD k 0).natAbs := by
  induction w generalizing xs with
  | zero => simp [largestMagnitude]
  | succ w ih =>
    cases xs with
    | nil =>
      have : (fun k => (([] : List Int).getD k 0).natAbs) = fun _ => 0 := by
        funext k
        simp
      rw [this, Finset.sup_const (by simp)]
      rfl
    | cons x xs =>
      have hr : Finset.range (w + 1) = insert 0 ((Finset.range w).image (· + 1)) := by
        ext k
        cases k <;> simp
      rw [hr, Finset.sup_insert, Finset.sup_image]
      simp only [List.take_succ_cons, List.getD_cons_zero]
      have : (fun k => ((x :: xs).getD k 0).natAbs) ∘ (· + 1) = fun k => (xs.getD k 0).natAbs := by
        funext k
        simp
      rw [this, ← ih xs]
      simp [largestMagnitude]

/-- The tap sum over the first `w` places, when the taps reach that far. -/
theorem tapSum_take (hs xs : List Int) (w : Nat) :
    tapSum hs (xs.take w) = ∑ k ∈ Finset.range w, hs.getD k 0 * xs.getD k 0 := by
  induction w generalizing hs xs with
  | zero => simp [tapSum]
  | succ w ih =>
    cases xs with
    | nil => simp [tapSum]
    | cons x xs =>
      cases hs with
      | nil => simp [tapSum]
      | cons h hs =>
        rw [Finset.sum_range_succ']
        simp only [List.take_succ_cons, List.getD_cons_succ, List.getD_cons_zero]
        rw [← ih hs xs]
        simp [tapSum, Int.add_comm]

/-- P over a window, place by place (R19). -/
theorem Echo.energy_window (p : ParamSet) (e : Echo) :
    sumSquares (e.windowSamples p) =
      ∑ k ∈ Finset.range p.window, (e.history.data.getD (p.bulkDelay + k) 0).natAbs ^ 2 := by
  rw [Echo.windowSamples, sumSquares_take]
  simp only [getD_drop]

/-- Xpk over a window, place by place (R19). -/
theorem Echo.peak_window (p : ParamSet) (e : Echo) :
    largestMagnitude (e.windowSamples p) =
      (Finset.range p.window).sup fun k => (e.history.data.getD (p.bulkDelay + k) 0).natAbs := by
  rw [Echo.windowSamples, largestMagnitude_take]
  simp only [getD_drop]

/-- acc, place by place (R31). -/
theorem Echo.tapSum_window (p : ParamSet) (e : Echo) :
    tapSum e.taps.data (e.windowSamples p) =
      ∑ k ∈ Finset.range p.window,
        e.taps.data.getD k 0 * e.history.data.getD (p.bulkDelay + k) 0 := by
  rw [Echo.windowSamples, tapSum_take]
  simp only [getD_drop]

/-- The history after a sample, place by place (R16). -/
theorem pushHistory_getD (x : Int) (h : Table Int 1472) {k : Nat} (hk : k < 1472) :
    (pushHistory x h).data.getD k 0 = if k = 0 then x else h.data.getD (k - 1) 0 := by
  cases k with
  | zero => simp [pushHistory]
  | succ k =>
    have : k < 1471 := by omega
    simp [pushHistory, List.getD_eq_getElem?_getD, this]

/-- The taps after an adapted sample, place by place (R22, R38). -/
theorem adaptTaps_getD (a : Int) (hs xs : List Int) (k : Nat) :
    (adaptTaps a hs xs).getD k 0 =
      if k < hs.length ∧ k < xs.length then adaptTap a (hs.getD k 0) (xs.getD k 0) else hs.getD k 0 := by
  induction hs generalizing xs k with
  | nil => simp [adaptTaps]
  | cons h hs ih =>
    cases xs with
    | nil => simp [adaptTaps]
    | cons x xs =>
      cases k with
      | zero => simp [adaptTaps]
      | succ k => simpa [adaptTaps] using ih xs k

/-- Some tap is clamped exactly when the sum at some place leaves the range (R38, R39). -/
theorem anyTapClamped_iff (a : Int) (hs xs : List Int) :
    anyTapClamped a hs xs = true ↔
      ∃ k, k < hs.length ∧ k < xs.length ∧ tapClamped a (hs.getD k 0) (xs.getD k 0) = true := by
  induction hs generalizing xs with
  | nil => simp [anyTapClamped]
  | cons h hs ih =>
    cases xs with
    | nil => simp [anyTapClamped]
    | cons x xs =>
      rw [anyTapClamped, Bool.or_eq_true, ih xs]
      constructor
      · rintro (h0 | ⟨k, h1, h2, h3⟩)
        · exact ⟨0, by simp, by simp, by simpa using h0⟩
        · exact ⟨k + 1, by simpa using h1, by simpa using h2, by simpa using h3⟩
      · rintro ⟨k, h1, h2, h3⟩
        cases k with
        | zero => exact .inl (by simpa using h3)
        | succ k => exact .inr ⟨k, by simpa using h1, by simpa using h2, by simpa using h3⟩

/-- The length of a window that lies inside the history. -/
theorem Echo.windowSamples_length {p : ParamSet} (e : Echo) (h : p.bulkDelay + p.window ≤ 1472) :
    (e.windowSamples p).length = p.window := by
  simp [Echo.windowSamples, e.history.size]
  omega

/-- A valid window lies inside the history (2.2). -/
theorem ParamSet.window_fits {p : ParamSet} (h : p.valid = true) :
    p.bulkDelay + p.window ≤ 1472 ∧ p.window ≤ 512 := by
  simp [ParamSet.valid] at h
  omega

end Sys2Proof.Machine
end

