-- ==== Sys2Proof/Tests/Slice0.lean ====
section
/-! SUPPORT. Our own tests: the checks of WellFormed, frames written out byte by byte, the worked examples of the
manual, one step each, and for every statement a concrete state and operands that meet its hypotheses. Every expected
value stands in the manual or is computed by hand from the rule that the test names. -/

namespace Sys2Proof.Tests

open Sys2Proof Sys2Proof.Machine Sys2Proof.Claims

-- one theorem after the other: each waits for the kernel, and many at once would wait on as many threads
set_option Elab.async false

/-! ## Small states -/

/-- The state after a command; the state itself where it gives none. -/
def after (c : Instr) (s : State) : State :=
  match exec c s with
  | .next t => t
  | _ => s

/-- The highway LOCKED, with its expected position at bit period 512. -/
def locked (s : State) : State :=
  { s with highway := { s.highway with lock := .locked, expected := some 512 } }

/-- All three call options on. -/
def allOn : CallOptions := ⟨true, true, true⟩

/-- A channel in CALL with reference 902, every option on. -/
def inCall (c : Channel) : Channel := { c with custody := .call 902 allOn false }

/-- The locked part with channel `ch` as given. -/
def withChan (ch : ChannelNo) (c : Channel) : State := (locked State.reset).setChan ch c

/-- The same, with the channel's frame event to come. -/
def atFrame (ch : ChannelNo) (c : Channel) : State := withChan ch { c with frameDue := true }

/-- The same, with the channel's block end to come. -/
def atBlockEnd (ch : ChannelNo) (c : Channel) : State := withChan ch { c with blockDue := true }

/-- The locked part with a second tick owed and the clock at `k`. -/
def atTick (k : Clock) : State :=
  { locked State.reset with clock := { k with fis := 7999 }, tickDue := true }

/-- The locked part that has lost two positions in a row, the clock SET. -/
def nearlyLost : State :=
  { State.reset with
    highway := { Highway.powerOn with lock := .locked, expected := some 512, badRun := 2, frame := 1237 }
    clock := { Clock.powerOn with state := .set } }

/-- Seven correctly spaced pulses counted, the last at bit period 5120, in the lock state given. -/
def sevenPulses (l : Lock) : State :=
  { State.reset with
    highway :=
      { Highway.powerOn with lock := l, goodRun := 7, lastPulse := some ⟨5120, 1250000⟩ } }

/-- A link's receiver in the state given. -/
def receiving (l : Link) (rx : Receiver) : State :=
  State.reset.setLink l { LinkCtl.powerOn with rx := rx }

/-- The result byte of the response on a link; none while its transmitter is idle. -/
def resultOn (l : Link) (s : State) : Option Byte := (s.link l).tx.bind fun bytes => bytes[4]?

/-- The data bytes of the response on a link, its check left out. -/
def dataOn (l : Link) (s : State) : List Byte :=
  match (s.link l).tx with
  | some bytes => (bytes.drop 5).take (bytes.length - 7)
  | none => []

/-! ## The checks of WellFormed -/

/-- R1: a frame has 512 bit periods. -/
theorem smoke_bclkStopped_past_frame : (Instr.bclkStopped 512).WellFormed = false := by decide +kernel

/-- R208: CODE 0x10 names SEIZE. -/
theorem smoke_unknown_code_known : (Instr.unknownCommand .cLink 0x10 0 []).WellFormed = false := by
  decide +kernel

/-- R202: 59 parameters make a LEN of 61. -/
theorem smoke_params_too_long :
    (Instr.seize .cLink 0 (List.replicate 59 0)).WellFormed = false ∧
      (Instr.unknownCommand .mLink 0x7F 0 (List.replicate 59 0)).WellFormed = false ∧
      (Instr.seize .cLink 0 (List.replicate 58 0)).WellFormed = true := by
  decide +kernel

/-- The ill-formed CODE is refused under its own name. -/
theorem smoke_exec_refuses_known_code :
    exec (.unknownCommand .cLink 0x10 0 []) State.reset = .refused (.codeNamesACommand 0x10) := rfl

/-! ## Frames (chapters 10 and 11) -/

/-- R204, the example: the register after LEN, CODE and TAG. -/
theorem test_crc_of_the_example :
    crc [0x02] = 0xC1B2#16 ∧ crc [0x02, 0x01] = 0x6B4C#16 ∧ crc [0x02, 0x01, 0x00] = 0x91CD#16 := by
  decide +kernel

/-- R204, the example: the whole frame of READ ATTENTION. -/
theorem test_frame_of_the_example :
    decodeFrame .cLink [0xC5, 0x02, 0x01, 0x00, 0x91, 0xCD] = some (.readAttention .cLink 0 []) := by
  decide +kernel

/-- 11.2 and 11.3, one command of each family: CODE, TAG and the parameter bytes of its layout. The check is R204's. -/
theorem test_frames_of_each_family :
    decodeFrame .cLink (frameOf [0x10, 0x2B, 0x14, 0x11, 0x3A, 0x07]) =
        some (.seize .cLink 0x2B [0x14, 0x11, 0x3A, 0x07]) ∧
      decodeFrame .mLink (frameOf [0x03, 0x01]) = some (.deviceRestart .mLink 1 []) ∧
      decodeFrame .mLink (frameOf [0x16, 0x02, 0x05]) = some (.restartChannel .mLink 2 [5]) ∧
      decodeFrame .mLink (frameOf [0x24, 0x03, 0xF8, 0x0C, 0x02, 0x0F, 0x01]) =
        some (.fieldWrite .mLink 3 [0xF8, 0x0C, 0x02, 0x0F, 0x01]) ∧
      decodeFrame .mLink (frameOf [0x30, 0x04, 0x09]) = some (.holdProfile .mLink 4 [9]) ∧
      decodeFrame .mLink (frameOf [0x3A, 0x05, 0x03, 0x07]) = some (.overridePush .mLink 5 [3, 7]) ∧
      decodeFrame .mLink (frameOf [0x40, 0x06, 24, 2, 29, 8, 0, 0, 1]) =
        some (.timeSet .mLink 6 [24, 2, 29, 8, 0, 0, 1]) ∧
      decodeFrame .cLink (frameOf [0x50, 0x07, 0x3F]) = some (.readSlot .cLink 7 [0x3F]) ∧
      decodeFrame .cLink (frameOf [0x7F, 0x08]) = some (.unknownCommand .cLink 0x7F 8 []) := by
  decide +kernel

/-- A damaged check byte: not a command (R204). -/
theorem test_damaged_frame : decodeFrame .cLink [0xC5, 0x02, 0x01, 0x00, 0x91, 0xCC] = none := by
  decide +kernel

/-- R222: the bytes of six tap values. -/
theorem test_tap_bytes :
    tapBytes 0 = [0, 0, 0] ∧ tapBytes (-1) = [0xFF, 0xFF, 0xFF] ∧ tapBytes 418570 = [0x06, 0x63, 0x0A] ∧
      tapBytes (-418571) = [0xF9, 0x9C, 0xF5] ∧ tapBytes 4194303 = [0x3F, 0xFF, 0xFF] ∧
      tapBytes (-4194304) = [0xC0, 0x00, 0x00] := by
  decide +kernel

/-! ## Reset and links -/

/-- R199: both lines go inactive. -/
theorem test_resetAssert :
    (after .resetAssert State.reset).links.c.line = false ∧
      (after .resetAssert State.reset).links.m.line = false := by
  decide +kernel

/-- R199: after the release DEVICE_RESTARTED drives both lines, lock state ACQUIRING. -/
theorem test_resetRelease :
    (after .resetRelease (after .resetAssert (locked State.reset))).links.m.conds.restarted =
        some .acquiring ∧
      (after .resetRelease (after .resetAssert (locked State.reset))).links.c.line = true := by
  decide +kernel

/-- 10.2, worked sequence, steps 1 and 2: the last byte of READ ATTENTION is taken and the receiver is in SETTLE. -/
theorem test_receiveByte_takes_a_frame :
    ((after (.receiveByte .cLink 0xCD)
        (receiving .cLink (.receiving [0xC5, 0x02, 0x01, 0x00, 0x91]))).link .cLink).rx = .settle ∧
      resultOn .cLink (after (.receiveByte .cLink 0xCD)
        (receiving .cLink (.receiving [0xC5, 0x02, 0x01, 0x00, 0x91]))) = some 0 := by
  decide +kernel

/-- 10.2, worked sequence, step 3: a LEN of 80 is BAD_LENGTH. -/
theorem test_receiveByte_bad_length :
    ((after (.receiveByte .cLink 0x50) (receiving .cLink (.receiving [0xC5]))).link .cLink).rx = .hunt ∧
      ((after (.receiveByte .cLink 0x50) (receiving .cLink (.receiving [0xC5]))).link
          .cLink).conds.linkError = some (.badLength, 1) := by
  decide +kernel

/-- 10.2, worked sequence, step 4: silence inside a frame is TIMEOUT, and the receiver is READY. -/
theorem test_gapTimerExpiry :
    ((after (.gapTimerExpiry .cLink) (receiving .cLink (.receiving [0xC5, 0x04, 0x11]))).link
          .cLink).rx = .ready ∧
      ((after (.gapTimerExpiry .cLink) (receiving .cLink (.receiving [0xC5, 0x04, 0x11]))).link
          .cLink).conds.linkError = some (.timeout, 1) := by
  decide +kernel

/-- R205: the busy mark is cleared at the last byte of the response. -/
theorem test_responseSent :
    ((after (.responseSent .cLink) (after (.timeRead .cLink 0 []) State.reset)).link .cLink).busy =
      false := by
  decide +kernel

/-- R205: a command on a busy link is an OVERRUN. -/
theorem test_overrun :
    ((after (.seize .cLink 1 [0, 0, 1, 7]) (after (.timeRead .cLink 0 []) State.reset)).link
      .cLink).conds.linkError = some (.overrun, 1) := by
  decide +kernel

/-- R220: a refusal is 7 bytes and repeats the CODE. -/
theorem test_unknownCommand :
    ((after (.unknownCommand .cLink 0x7F 8 []) State.reset).link .cLink).tx =
      some (frameOf [0x7F, 8, 0x10]) := by
  decide +kernel

/-- R214: after power-on READ ATTENTION answers one entry, DEVICE_RESTARTED with ACQUIRING, and clears it. -/
theorem test_readAttention :
    dataOn .mLink (after (.readAttention .mLink 0 []) State.reset) = [1, 0x01, 0, 0, 0, 0, 0] ∧
      ((after (.readAttention .mLink 0 []) State.reset).link .mLink).line = false := by
  decide +kernel

/-- R212, R213: with a mask of 0 no condition drives the line; the condition stays pending. -/
theorem test_setAttentionMask :
    ((after (.setAttentionMask .mLink 0 [0]) State.reset).link .mLink).line = false ∧
      ((after (.setAttentionMask .mLink 0 [0]) State.reset).link .mLink).conds.restarted =
        some .acquiring := by
  decide +kernel

/-- R200, R208: DEVICE RESTART is the M-link's, and it waits for its response. -/
theorem test_deviceRestart :
    resultOn .cLink (after (.deviceRestart .cLink 0 []) State.reset) = some 0x14 ∧
      (after (.deviceRestart .mLink 0 []) State.reset).restartPending = true := by
  decide +kernel

/-- R201, R135: the restart ends a call without a summary, and raises DEVICE_RESTARTED with LOCKED. -/
theorem test_restartInstant :
    (after .restartInstant (after (.deviceRestart .mLink 0 []) (withChan 3 (inCall Channel.powerOn)))
        |>.chan 3).custody = .idle ∧
      (after .restartInstant (after (.deviceRestart .mLink 0 [])
        (withChan 3 (inCall Channel.powerOn)))).links.c.conds.restarted = some .locked ∧
      (after .restartInstant (after (.deviceRestart .mLink 0 [])
        (withChan 3 (inCall Channel.powerOn)))).ring.writePos = 0 := by
  decide +kernel

/-! ## Highway (chapter 1) -/

/-- 1.3, worked sequence: the eighth pulse restores lock; frame counter 0, blanking 40, HIGHWAY_FAULT untouched. -/
theorem test_fsyncPulse_restores :
    (after (.fsyncPulse 5632 1375000) (sevenPulses .lost)).highway.lock = .locked ∧
      (after (.fsyncPulse 5632 1375000) (sevenPulses .lost)).highway.frame = 0 ∧
      ((after (.fsyncPulse 5632 1375000) (sevenPulses .lost)).chan 5).near.blanking = 40 ∧
      (after (.fsyncPulse 5632 1375000) (sevenPulses .lost)).ring.nextSeq.m = 1 := by
  decide +kernel

/-- R4: a pulse at another spacing starts a new run. -/
theorem test_fsyncPulse_misspaced :
    (after (.fsyncPulse 5633 1375000) (sevenPulses .acquiring)).highway.goodRun = 1 := by decide +kernel

/-- R4: 130 µs without a pulse empty the run. -/
theorem test_pulseTimeout : (after .pulseTimeout (sevenPulses .acquiring)).highway.goodRun = 0 := by
  decide +kernel

/-- R6: the bits from the stopped bit period on are taken as 0. -/
theorem test_bclkStopped :
    ((after (.frameEvent 0 0xFFFF 0x7FFF)
      (after (.bclkStopped 8) (atFrame 0 Channel.powerOn))).chan 0).xNext = -256 := by
  decide +kernel

/-- 1.3, worked sequence, position D: LOST, HIGHWAY_FAULT on both links, clock STALE with CLOCK_ALERT, one record. -/
theorem test_expectedPosition_loses_lock :
    (after (.expectedPosition false) nearlyLost).highway.lock = .lost ∧
      (after (.expectedPosition false) nearlyLost).links.c.conds.highwayFault = true ∧
      (after (.expectedPosition false) nearlyLost).links.m.conds.clockAlert = true ∧
      (after (.expectedPosition false) nearlyLost).clock.state = .stale ∧
      (after (.expectedPosition false) nearlyLost).ring.writePos = 1 := by
  decide +kernel

/-- R5: a good position sets the bad run to 0 and begins a frame. -/
theorem test_expectedPosition_good :
    (after (.expectedPosition true) nearlyLost).highway.badRun = 0 ∧
      (after (.expectedPosition true) nearlyLost).highway.frame = 1238 := by
  decide +kernel

/-- 1.5, the example: channel 7 IDLE passes 1200 and −300. -/
theorem test_frameEvent_idle :
    ((after (.frameEvent 7 1200 (-300)) (atFrame 7 Channel.powerOn)).chan 7).xNext = 1200 ∧
      ((after (.frameEvent 7 1200 (-300)) (atFrame 7 Channel.powerOn)).chan 7).zNext = -300 := by
  decide +kernel

/-! ## The canceller (chapter 2) -/

/-- 2.6, worked case: channel 20 just seized, with 1000 in the history two places back. -/
def channel20 : Channel :=
  { inCall Channel.powerOn with
    params := { profileZero with window := 128, mFast := 2, nsRatio := 4, nsFloor := 64, farFloor := 32 }
    echo := { Echo.powerOn with history := (Table.replicate 1472 0).set 2 1000 } }

/-- 2.6, worked case: s = 400 moves tap 3 to 418,570. -/
theorem test_frameEvent_adapts :
    ((after (.frameEvent 20 0 400) (atFrame 20 channel20)).chan 20).echo.taps.get 3 = 418570 ∧
      ((after (.frameEvent 20 0 400) (atFrame 20 channel20)).chan 20).near.conv = .converging := by
  decide +kernel

/-- 2.6, worked case with a negative residual: −418,571. -/
theorem test_negative_residual : (channel20.activeFrame false 0 (-400)).echo.taps.get 3 = -418571 := by
  decide +kernel

/-- 2.6, second limit case: h_0 is clamped to −4,194,304 and SATURATIONS becomes 1. -/
theorem test_tap_clamp :
    let c := Channel.activeFrame false 32 (-4094)
      { channel20 with
        params := { profileZero with window := 128, mFast := 1, nsFloor := 4095, farFloor := 32 }
        echo := Echo.powerOn }
    c.echo.taps.get 0 = -4194304 ∧ c.stats.saturations = 1 := by
  decide +kernel

/-- 2.6, first limit case: the step factor is clamped. -/
theorem test_step_factor_clamp : stepFactor 1 (-32768) 3072 = -2147483647 := by decide +kernel

/-- 2.5, the table of estimates, and channel 9's residual. -/
theorem test_estimates :
    [2097151, 2097152, -2097152, -2097153, 6291456, -6291456, 418570000, 70368744177664].map estimate =
        [0, 1, 0, -1, 2, -1, 100, 32767] ∧
      residual (-32000) (estimate 150000000000) = -32768 := by
  decide +kernel

/-! ## Block ends (chapters 3, 4, 5 and 9) -/

/-- 3.5, the example: the sums of one block with |s| = 5000 and the residual energy given. -/
def nearOf (pe : Nat) (conv : Convergence) : Near :=
  { Near.powerOn with ps := 1000000000, pe := pe, nsc := 0, ac := 40, cancelling := true, conv := conv }

/-- 3.5, the example: three blocks. -/
theorem test_classification :
    (nearOf 40000000 .converging).classify = .good ∧ (nearOf 67600000 .converging).classify = .nonGood ∧
      (nearOf 2560000000 .converging).classify = .diverging := by
  decide +kernel

/-- R59: the eighth good block makes CONVERGED. -/
theorem test_blockEnd_converges :
    ((after (.blockEnd 4)
      (atBlockEnd 4
        { inCall Channel.powerOn with near := { nearOf 40000000 .converging with goodRun := 7 } })).chan
      4).near.conv = .converged := by
  decide +kernel

/-- 4.6, worked sequence, block b+80: the exchange run reaches 80 and the channel enters BYPASSED. -/
theorem test_tone_entry :
    let k : Tone :=
      { Tone.powerOn with
        observed := 40
        exchange :=
          { ToneDir.powerOn with crossings := 21, power := 18000000, prevPower := 17600000, run := 79 } }
    (k.judge true).1.bypassed = true ∧ (k.judge true).2 = some (.toneBypassOn .exchange) := by
  decide +kernel

/-- 5.4, worked case: a loud trunk, blocks 1 to 4. -/
theorem test_level_attack :
    [((0 : Int), (4000 : Int)), (-1, 3565), (-2, 3177), (-3, 2832)].map (fun p =>
      (gainOut p.1 4000, gainOut p.1 (-4000),
        (Level.control levelZero { Level.powerOn with gain := p.1, sum := 40 * p.2.natAbs }).gain)) =
      [(4000, -4000, -1), (3565, -3565, -2), (3177, -3177, -3), (2832, -2832, -3)] := by
  decide +kernel

/-- R85, R87: 8225 does not clip at +12 dB, 8232 does. -/
theorem test_clip_edge :
    gainOut 12 8225 = 32744 ∧ gainClips 12 8225 = false ∧ gainClips 12 8232 = true := by decide +kernel

/-- 9.5, worked sequence: slots 10 to 13 free, slot 14 the C-link's, M-link sequence 512 and drop count 2. -/
def tightRing : Ring :=
  { slots :=
      (Table.replicate 64 Slot.device).set 14
        (.owned .cLink
          { dest := .cLink, seq := 7, channel := some 1, stamp := ⟨TimeOfDay.midnight, 0⟩, first := true,
            last := true, truncated := false, dropped := 0, payload := .event .toneBypassOff })
    writePos := 10
    nextSeq := ⟨8, 512⟩
    drops := ⟨0, 2⟩ }

/-- The same example: channel 21, W = 384, a third diverging block. -/
def channel21 : Channel :=
  { inCall Channel.powerOn with
    params := { profileZero with bulkDelay := 860, window := 384 }
    capturePending := true
    near := { nearOf 2560000000 .converged with divRun := 2 } }

/-- 9.5, worked sequence: the capture is truncated into four slots, then DIVERGED finds no room. -/
theorem test_blockEnd_truncated_capture :
    let t := after (.blockEnd 21) { atBlockEnd 21 channel21 with ring := tightRing }
    t.ring.writePos = 14 ∧ t.ring.nextSeq.m = 513 ∧ t.ring.drops.m = 1 ∧
      (t.chan 21).near.conv = .untrained ∧ (t.chan 21).stats.divergences = 1 ∧
      (t.chan 21).capturePending = false := by
  decide +kernel

/-- 11.4, worked example: the header and fixed bytes of slot 13. -/
theorem test_capture_slot_bytes :
    (match (tightRing.putCapture ⟨TimeOfDay.midnight, 0⟩ 21 { channel21 with profile := 9 }).slots.get 13 with
      | .owned _ r => (r.bytes.length, r.bytes.take 5, (r.bytes.drop 10).take 9)
      | .device => (0, [], [])) =
      (211, [0x02, 0x02, 0x02, 0x00, 0x15], [0x06, 0x00, 0x09, 0x03, 0x5C, 0x01, 0x80, 0x00, 0xC0]) := by
  decide +kernel

/-! ## Calls and tests (chapter 6) -/

/-- Chapter 11, worked example: SEIZE of channel 20 as call 4410, and what READ CHANNEL then says first. -/
theorem test_seize :
    ((after (.seize .cLink 0x2B [0x14, 0x11, 0x3A, 0x07]) State.reset).link .cLink).tx =
        some (frameOf [0x10, 0x2B, 0x00]) ∧
      ((after (.seize .cLink 0x2B [0x14, 0x11, 0x3A, 0x07]) State.reset).chan 20).bytes.take 4 =
        [0x01, 0x11, 0x3A, 0x07] := by
  decide +kernel

/-- Chapter 11, the same example: options 0x0F are BAD_VALUE, a missing byte is BAD_LENGTH. -/
theorem test_seize_refused :
    resultOn .cLink (after (.seize .cLink 0x2B [0x14, 0x11, 0x3A, 0x0F]) State.reset) = some 0x12 ∧
      resultOn .cLink (after (.seize .cLink 0x2B [0x14, 0x11, 0x3A]) State.reset) = some 0x11 := by
  decide +kernel

/-- 6.4, worked sequence: channel 26 in CALL with reference 902, a block pending. -/
def blocked26 : State := withChan 26 { Channel.powerOn with custody := .call 902 allOn true }

/-- 6.4, worked sequence, step 4: CLEAR(26, 902) moves the channel to TEST, and BLOCK_DONE gains it. -/
theorem test_clear :
    let t := after (.clear .cLink 0 [26, 0x03, 0x86]) blocked26
    (t.chan 26).custody = .test ∧ t.links.m.conds.blockDone = 1#32 <<< 26 ∧ t.links.c.conds.owned = 1 := by
  decide +kernel

/-- 6.2: CLEAR of a call with another reference is CALL_MISMATCH. -/
theorem test_clear_mismatch :
    resultOn .cLink (after (.clear .cLink 0 [26, 0x03, 0x87]) blocked26) = some 0x24 := by decide +kernel

/-- 6.2, the example: MODIFY CALL with CANCEL off. -/
theorem test_modifyCall :
    ((after (.modifyCall .cLink 0 [26, 0x03, 0x86, 0x06]) blocked26).chan 26).custody =
      .call 902 ⟨false, true, true⟩ true := by
  decide +kernel

/-- 6.4, worked sequence, steps 1 and 2: BLOCK of a call is ACCEPTED, a second is WRONG_STATE. -/
theorem test_block :
    resultOn .mLink (after (.block .mLink 0 [26]) (withChan 26 (inCall Channel.powerOn))) = some 0x01 ∧
      resultOn .mLink (after (.block .mLink 0 [26]) blocked26) = some 0x20 := by
  decide +kernel

/-- 6.4, worked sequence, step 6: UNBLOCK ends a test with a summary for the M-link. -/
theorem test_unblock :
    let t := after (.unblock .mLink 0 [26]) (withChan 26 { Channel.powerOn with custody := .test })
    (t.chan 26).custody = .idle ∧ t.links.m.conds.owned = 1 := by
  decide +kernel

/-- R117: FORCE RELEASE with a block pending: CUSTODY_NOTICE on the C-link, BLOCK_DONE on the M-link. -/
theorem test_forceRelease :
    let t := after (.forceRelease .mLink 0 [26]) blocked26
    t.links.c.conds.custodyNotice = 1#32 <<< 26 ∧ t.links.m.conds.blockDone = 1#32 <<< 26 ∧
      (t.chan 26).custody = .test := by
  decide +kernel

/-- 6.7, the example: a restart keeps the statistics and clears the model. -/
theorem test_restartChannel :
    let c : Channel :=
      { inCall Channel.powerOn with
        stats := { Stats.zero with duration := 90 }
        near := { Near.powerOn with conv := .converged } }
    let t := after (.restartChannel .cLink 0 [4, 0x03, 0x86]) (withChan 4 c)
    (t.chan 4).stats.duration = 90 ∧ (t.chan 4).near.conv = .untrained := by
  decide +kernel

/-- 11.3: READ CHANNEL answers 29 bytes. -/
theorem test_readChannel :
    (dataOn .cLink (after (.readChannel .cLink 0 [26]) blocked26)).length = 29 ∧
      (dataOn .cLink (after (.readChannel .cLink 0 [26]) blocked26)).take 5 = [1, 0x03, 0x86, 7, 1] := by
  decide +kernel

/-- R123: a channel in CALL is answered IN_CALL; an IDLE one changes its group. -/
theorem test_assignChannel :
    resultOn .mLink (after (.assignChannel .mLink 0 [26, 2]) blocked26) = some 0x21 ∧
      ((after (.assignChannel .mLink 0 [5, 2]) blocked26).chan 5).group = 2 := by
  decide +kernel

/-! ## Flags (6.6) -/

/-- R126: a base of 24, and a base of 32. -/
theorem test_setBase :
    ((after (.setBase .mLink 0 [24]) State.reset).link .mLink).base = 24 ∧
      resultOn .mLink (after (.setBase .mLink 0 [32]) State.reset) = some 0x13 := by
  decide +kernel

/-- 6.6, worked sequence: the M-link's base at 24. -/
def base24 : State := State.reset.setLink .mLink { LinkCtl.powerOn with base := 24 }

/-- 6.6, worked sequence: the run frozen, read back on the same base. -/
theorem test_fieldWrite :
    let t := after (.fieldWrite .mLink 0 [0xF8, 12, 2, 0x0F, 0x01]) base24
    (List.finRange 32).filter (fun ch => (t.chan ch).freeze) = [16, 24, 25, 26, 27] := by
  decide +kernel

/-- 6.6, worked sequence: BAD_CHANNEL past channel 31, BAD_VALUE for a position at the count. -/
theorem test_fieldWrite_refused :
    resultOn .mLink (after (.fieldWrite .mLink 0 [0, 12, 2, 0, 1]) base24) = some 0x13 ∧
      resultOn .mLink (after (.fieldWrite .mLink 0 [0, 8, 2, 1, 0]) base24) = some 0x12 := by
  decide +kernel

/-- 6.6, worked sequence: FIELD READ of sixteen channels, two of them frozen here. -/
theorem test_fieldRead :
    dataOn .mLink
      (after (.fieldRead .mLink 0 [0xF8, 16, 2])
        ((base24.setChan 16 { Channel.powerOn with freeze := true }).setChan 27
          { Channel.powerOn with freeze := true })) = [0x08, 0x01] := by
  decide +kernel

/-- R127: FLAG SET of FREEZE, FLAG CLEAR and FLAG TEST at displacement +3. -/
theorem test_flag_commands :
    ((after (.flagSet .mLink 0 [3, 2]) base24).chan 27).freeze = true ∧
      ((after (.flagClear .mLink 0 [3, 1])
        (base24.setChan 27 { Channel.powerOn with forceBypass := true })).chan 27).forceBypass = false ∧
      dataOn .mLink
        (after (.flagTest .mLink 0 [3, 2]) (base24.setChan 27 { Channel.powerOn with freeze := true })) =
        [1] := by
  decide +kernel

/-- R127: a displacement of −17 is BAD_VALUE before the channel is looked at. -/
theorem test_flagSet_displacement :
    resultOn .mLink (after (.flagSet .mLink 0 [0xEF, 2]) State.reset) = some 0x12 ∧
      resultOn .mLink (after (.flagSet .mLink 0 [0xF0, 2]) State.reset) = some 0x13 := by
  decide +kernel

/-! ## Profiles and groups (chapter 7) -/

/-- 7.2, worked sequence: profile 9's fields with the bulk delay given. -/
def radio (d : Nat) : ParamSet :=
  { profileZero with
    bulkDelay := d, window := 384, rPath := { levelZero with pad := -4, gMin := -10, gMax := 2 } }

/-- 7.2, worked sequence: profile 9 HELD with its fields, channel 14 in CALL on a copy with D = 880. -/
def held9 (d : Nat) : State :=
  { withChan 14
      { inCall Channel.powerOn with
        profile := 9, params := radio 880, near := { Near.powerOn with conv := .converged } } with
    profiles := State.reset.profiles.set 9 { fields := radio d, held := true } }

/-- 7.2, worked sequence, step 2: HOLD; and profile 0 cannot be held. -/
theorem test_holdProfile :
    (after (.holdProfile .mLink 0 [9]) State.reset).heldOf 9 = true ∧
      resultOn .mLink (after (.holdProfile .mLink 0 [0]) State.reset) = some 0x12 := by
  decide +kernel

/-- 7.2, worked sequence, steps 1 and 4: NOT_HELD while OPEN, written while HELD. -/
theorem test_writeProfile :
    resultOn .mLink (after (.writeProfile .mLink 0 (9 :: (radio 860).bytes)) State.reset) = some 0x28 ∧
      (after (.writeProfile .mLink 0 (9 :: (radio 860).bytes)) (held9 880)).fieldsOf 9 = radio 860 := by
  decide +kernel

/-- 7.2, worked sequence, step 3: A_lo = A_hi is BAD_VALUE. -/
theorem test_writeProfile_relation :
    resultOn .mLink
      (after
        (.writeProfile .mLink 0
          (9 :: ParamSet.bytes { radio 860 with rPath := { levelZero with aLo := 3000, aHi := 3000 } }))
        (held9 880)) = some 0x12 := by
  decide +kernel

/-- 7.2, worked sequence, step 6: the resume applies D = 860 and clears the model of channel 14. -/
theorem test_resumeProfile :
    let t := after (.resumeProfile .mLink 0 [9]) (held9 860)
    t.heldOf 9 = false ∧ (t.chan 14).params.bulkDelay = 860 ∧ (t.chan 14).near.conv = .untrained := by
  decide +kernel

/-- 7.2, worked sequence, step 5: READ PROFILE says HELD and D = 860. -/
theorem test_readProfile :
    (dataOn .mLink (after (.readProfile .mLink 0 [9]) (held9 860))).take 5 = [1, 0x03, 0x5C, 0x01, 0x80] := by
  decide +kernel

/-- 7.4, worked sequence: group 3 with the stack given, scheduled profile 2. -/
def group3 (stack : List ProfileNo) (applied : ProfileNo) : State :=
  State.reset.setGroup 3 { default := 0, scheduled := 2, stack := stack, applied := applied }

/-- R150: only the default changes. -/
theorem test_writeGroup :
    (after (.writeGroup .mLink 0 [3, 5]) (group3 [7] 7)).groups.get 3 =
      { default := 5, scheduled := 2, stack := [7], applied := 7 } := by
  decide +kernel

/-- 11.3: READ GROUP's nine bytes at step 3 of the sequence. -/
theorem test_readGroup :
    dataOn .cLink (after (.readGroup .cLink 0 [3]) (group3 [7, 7, 4] 4)) =
      [0, 2, 3, 7, 7, 4, 0xFF, 4, 0] := by
  decide +kernel

/-- 7.4, worked sequence, steps 1 and 2: a switch with one record, then a push without. -/
theorem test_overridePush :
    (after (.overridePush .mLink 0 [3, 7]) (group3 [] 2)).links.m.conds.owned = 1 ∧
      (after (.overridePush .mLink 0 [3, 7]) (group3 [7] 7)).links.m.conds.owned = 0 := by
  decide +kernel

/-- 7.4, worked sequence, step 5: STACK_FULL. -/
theorem test_overridePush_full :
    resultOn .mLink (after (.overridePush .mLink 0 [3, 9]) (group3 [7, 7, 4, 0] 0)) = some 0x26 := by
  decide +kernel

/-- 7.4, worked sequence, steps 6 and 11: the new top, and STACK_EMPTY. -/
theorem test_overridePop :
    ((after (.overridePop .mLink 0 [3]) (group3 [7, 7, 4, 0] 0)).groups.get 3).applied = 4 ∧
      resultOn .mLink (after (.overridePop .mLink 0 [3]) (group3 [] 2)) = some 0x27 := by
  decide +kernel

/-! ## Clock and schedule (chapter 8) -/

/-- A clock at 59:59 of an hour of a day, one frame before a tick. -/
def lastSecond (y mo d h w : Nat) : Clock :=
  { Clock.powerOn with
    year := y, month := mo, day := d, time := ⟨h, 59, 59⟩, weekday := w, fis := 7999 }

/-- 8.2, worked sequence: the seven rollovers, as TIME READ's bytes after the state. -/
theorem test_rollovers :
    [lastSecond 24 2 28 23 3, lastSecond 24 2 29 23 4, lastSecond 25 2 28 23 5, lastSecond 25 4 30 23 2,
        lastSecond 99 12 31 23 6, lastSecond 0 2 28 23 1, lastSecond 7 6 15 10 4].map
          (fun k => k.tick.bytes.tail) =
      [[24, 2, 29, 0, 0, 0, 4, 0, 0], [24, 3, 1, 0, 0, 0, 5, 0, 0], [25, 3, 1, 0, 0, 0, 6, 0, 0],
        [25, 5, 1, 0, 0, 0, 3, 0, 0], [0, 1, 1, 0, 0, 0, 0, 0, 0], [0, 2, 29, 0, 0, 0, 2, 0, 0],
        [7, 6, 15, 11, 0, 0, 4, 0, 0]] := by
  decide +kernel

/-- 8.5, worked sequence "leaving UNSET": 09:30:01 and profile 3 for group 6. -/
theorem test_secondTick :
    let s := atTick { Clock.powerOn with
      year := 25, month := 6, day := 10, time := ⟨9, 30, 0⟩, weekday := 2, state := .set }
    let t := after .secondTick
      { s with
        schedule :=
          s.schedule.set 0
            { inUse := true, group := 6, start := ⟨8, 0, 0⟩, stop := ⟨18, 0, 0⟩, mask := 0x7F#7,
              profile := 3 } }
    t.clock.time = ⟨9, 30, 1⟩ ∧ (t.groups.get 6).applied = 3 ∧ t.links.m.conds.owned = 1 := by
  decide +kernel

/-- 8.4, worked sequence: the window across midnight. -/
theorem test_window_across_midnight :
    [(5, 1, 0, 0), (5, 22, 59, 59), (5, 23, 0, 0), (6, 0, 0, 0), (6, 2, 0, 0), (6, 2, 0, 1),
        (6, 23, 0, 0)].map (fun (w, h, m, s) =>
      Entry.matchesAt
        { inUse := true, group := 2, start := ⟨23, 0, 0⟩, stop := ⟨2, 0, 0⟩, mask := 0x20#7, profile := 9 }
        ⟨h, m, s⟩ w) =
      [false, false, true, true, true, false, false] := by
  decide +kernel

/-- 8.3, the example: BAD_TIME and OK. -/
theorem test_timeSet :
    [[25, 2, 29, 8, 0, 0, 1], [24, 2, 29, 8, 0, 0, 1], [23, 4, 31, 12, 0, 0, 2], [23, 4, 30, 24, 0, 0, 2],
        [23, 4, 30, 12, 0, 0, 7], [0, 2, 29, 0, 0, 0, 5]].map (fun ps =>
      resultOn .mLink (after (.timeSet .mLink 0 ps) State.reset)) =
      [some 0x29, some 0, some 0x29, some 0x29, some 0x29, some 0] := by
  decide +kernel

/-- 1.4, worked sequence: TIME SET keeps the frame counter and sets the frame-in-second count to 0. -/
theorem test_timeSet_between_ticks :
    let s := { locked State.reset with clock := { Clock.powerOn with fis := 5210 } }
    let s := { s with highway := { s.highway with frame := 4410 } }
    let t := after (.timeSet .mLink 0 [24, 2, 29, 8, 0, 0, 1]) s
    t.highway.frame = 4410 ∧ t.clock.fis = 0 ∧ t.tickDue = false := by
  decide +kernel

/-- 11.3: TIME READ's ten bytes after power-on. -/
theorem test_timeRead :
    dataOn .cLink (after (.timeRead .cLink 0 []) State.reset) = [0, 0, 1, 1, 0, 0, 0, 0, 0, 0] := by
  decide +kernel

/-- R172, R173: an entry written, read, and erased with its fields kept. -/
theorem test_entries :
    let t := after (.writeEntry .mLink 0 [0, 2, 23, 0, 0, 2, 0, 0, 0x20, 9]) State.reset
    (t.schedule.get 0).bytes = [1, 2, 23, 0, 0, 2, 0, 0, 0x20, 9] ∧
      dataOn .cLink (after (.readEntry .cLink 0 [0]) t) = [1, 2, 23, 0, 0, 2, 0, 0, 0x20, 9] ∧
      ((after (.eraseEntry .mLink 0 [0]) { State.reset with schedule := t.schedule }).schedule.get 0).bytes =
        [0, 2, 23, 0, 0, 2, 0, 0, 0x20, 9] := by
  decide +kernel

/-! ## The ring (chapter 9) -/

/-- R192: a slot of the other link is NOT_OWNER; its owner reads 17 bytes of an event. -/
theorem test_readSlot :
    resultOn .mLink (after (.readSlot .mLink 0 [14]) { State.reset with ring := tightRing }) = some 0x25 ∧
      (dataOn .cLink (after (.readSlot .cLink 0 [14]) { State.reset with ring := tightRing })).length =
        17 := by
  decide +kernel

/-- R193: the slot is the part's again, and a second return is NOT_OWNER. -/
theorem test_returnSlot :
    (after (.returnSlot .cLink 0 [14]) { State.reset with ring := tightRing }).ring.slots.get 14 = .device ∧
      resultOn .cLink (after (.returnSlot .cLink 0 [15]) { State.reset with ring := tightRing }) =
        some 0x25 := by
  decide +kernel

/-- R188: ACCEPTED in CALL, WRONG_STATE when IDLE. -/
theorem test_requestCapture :
    ((after (.requestCapture .mLink 0 [26]) blocked26).chan 26).capturePending = true ∧
      resultOn .mLink (after (.requestCapture .mLink 0 [25]) blocked26) = some 0x20 := by
  decide +kernel

/-! ## States that meet the hypotheses of the statements

`witness_<Name>` is about Obligations.<Name>: each of its clauses, at a boundary value where the clause has a range. -/

/-- C-link and M-link are free right after reset. -/
theorem witness_free : Free .cLink State.reset ∧ Free .mLink State.reset := ⟨⟨rfl, rfl⟩, ⟨rfl, rfl⟩⟩

theorem witness_StepRunsTheFrontCommand :
    (State.reset.withPending [.secondTick, .resetAssert]).pending = .secondTick :: [.resetAssert] ∧
      State.reset.pending = [] := ⟨rfl, rfl⟩

theorem witness_CommandsLeaveTheQueueAlone :
    exec .secondTick (State.reset.withPending [.resetAssert]) =
      .next (State.reset.withPending [.resetAssert]) := rfl

theorem witness_WellFormedCommandsComplete :
    (Instr.bclkStopped 511).WellFormed = true ∧
      (Instr.writeProfile .mLink 0 (List.replicate 58 0)).WellFormed = true ∧
      (Instr.unknownCommand .cLink 0x7F 0 []).WellFormed = true := by
  decide +kernel

theorem witness_PowerOnRecordsAndRing : (after .resetAssert State.reset).resetAsserted = true := by
  decide +kernel

theorem witness_ResetHoldsThePart :
    (Instr.seize .cLink 0 [0, 0, 1, 7]).WellFormed = true ∧
      Instr.seize .cLink 0 [0, 0, 1, 7] ≠ .resetAssert ∧
      Instr.seize .cLink 0 [0, 0, 1, 7] ≠ .resetRelease ∧
      (after .resetAssert State.reset).resetAsserted = true ∧ State.reset.resetAsserted = false := by
  decide +kernel

/-- A restart that waits, with its response in transit. -/
def restarting : State := after (.deviceRestart .mLink 0 []) State.reset

theorem witness_RestartAwaitsItsResponse :
    (restarting.resetAsserted = false ∧ restarting.restartPending = true ∧
        restarting.links.m.tx.isSome = true) ∧
      ((after (.timeRead .mLink 0 []) State.reset).link .mLink).tx.isSome = true ∧
      (after (.timeRead .mLink 0 []) State.reset).restartPending = false ∧
      State.reset.restartPending = false ∧ (State.reset.link .cLink).tx = none := by
  decide +kernel

theorem witness_PulsesMoveTheGoodRun :
    (sevenPulses .lost).resetAsserted = false ∧ (sevenPulses .lost).highway.lock ≠ .locked ∧
      pulseRun (sevenPulses .lost).highway 5632 1380001 = 1 ∧
      pulseRun { (sevenPulses .lost).highway with goodRun := 6 } 5632 1380000 = 7 ∧
      (locked State.reset).highway.lock = .locked := by
  decide +kernel

theorem witness_EighthPulseOpensLock :
    pulseRun (sevenPulses .acquiring).highway 5632 1380000 = 8 ∧
      (sevenPulses .acquiring).highway.lock = .acquiring ∧ (sevenPulses .lost).highway.lock = .lost ∧
      pulseRun (sevenPulses .lost).highway 5632 1380000 = 8 ∧
      (sevenPulses .lost).resetAsserted = false := by
  decide +kernel

theorem witness_ExpectedPositionKeepsOrLosesLock :
    Running nearlyLost ∧ nearlyLost.highway.misplaced = false ∧ 3 ≤ nearlyLost.highway.badRun + 1 ∧
      Running (locked State.reset) ∧ (locked State.reset).highway.badRun + 1 < 3 ∧
      ¬(false = true ∧ (locked State.reset).highway.misplaced = false) ∧
      State.reset.highway.lock ≠ .locked := by
  unfold Running
  decide +kernel

/-- BCLK stopped at bit period 8, in the middle of channel 0's timeslot: its low eight bits are 0. -/
theorem witness_LockedPulsesAndStoppedClock :
    Running (after (.bclkStopped 8) (locked State.reset)) ∧
      (after (.bclkStopped 8) (locked State.reset)).highway.bclkStop = some 8 ∧
      (∀ i, i < 16 →
        (0x1200#16).getMsbD i = ((0x12FF#16).getMsbD i && decide (16 * (0 : ChannelNo).val + i < 8)) ∧
          (0x5600#16).getMsbD i = ((0x5678#16).getMsbD i && decide (16 * (0 : ChannelNo).val + i < 8))) ∧
      State.reset.highway.lock ≠ .locked := by
  unfold Running
  decide +kernel

theorem witness_IdleChannelPassesSamples :
    FrameDue 7 (atFrame 7 Channel.powerOn) ∧ ((atFrame 7 Channel.powerOn).chan 7).custody = .idle ∧
      (State.reset.highway.lock ≠ .locked ∧ ((locked State.reset).chan 7).frameDue = false) := by
  unfold FrameDue Running
  decide +kernel

theorem witness_SampleFollowsTheStages :
    FrameDue 20 (atFrame 20 channel20) ∧ ((atFrame 20 channel20).chan 20).custody ≠ .idle ∧
      ((atFrame 20 channel20).chan 20).params.valid = true := by
  unfold FrameDue Running
  decide +kernel

/-- One sample adapts (2.6's worked case); with FREEZE set the same sample does not. -/
theorem witness_AdaptationMovesTheTaps :
    FrameDue 20 (atFrame 20 channel20) ∧ ((atFrame 20 channel20).chan 20).custody ≠ .idle ∧
      ((atFrame 20 channel20).chan 20).params.valid = true ∧
      heldBy (atFrame 20 channel20) 20 = false ∧
      channel20.stageAllowed false 0 400 = true ∧
      Channel.stageAllowed { channel20 with freeze := true } false 0 400 = false := by
  unfold FrameDue Running
  decide +kernel

/-- In any channel whose history is all 0, with D = 0 and R-path index 0, the window peak of a sample `t` is |t|. -/
theorem newPeak_of_silence (c : Channel) (t : Int) (hg : newX c t = t) (hd : c.params.bulkDelay = 0)
    (hw : 0 < c.params.window) (hh : ∀ k, sampleAt c.echo k = 0) : newPeak c t = t.natAbs := by
  apply le_antisymm
  · refine Finset.sup_le fun k _ => ?_
    unfold winX pastX
    split
    · rw [hg]
    · rw [hh]; simp
  · refine le_trans (le_of_eq ?_) (Finset.le_sup (f := fun k => (winX c t k).natAbs) (Finset.mem_range.2 hw))
    unfold winX pastX
    simp [hd, hg]

theorem sampleAt_powerOn (k : Nat) : sampleAt Echo.powerOn k = 0 := by
  have h : ∀ (n j : Nat), (List.replicate n (0 : Int)).getD j 0 = 0 := by
    intro n j
    rw [List.getD_eq_getElem?_getD, List.getElem?_replicate]
    split <;> rfl
  exact h 1472 k

/-- The same decision in the statement's own words: silence on XHI against a loud trunk. -/
theorem witness_AdaptationMovesTheTaps_decision :
    allowed (inCall Channel.powerOn) false 32767 0 = true ∧
      allowed { inCall Channel.powerOn with freeze := true } false 32767 0 = false := by
  have h : newPeak (inCall Channel.powerOn) 32767 = 32767 :=
    newPeak_of_silence _ 32767 (by decide +kernel) rfl (by decide) sampleAt_powerOn
  constructor
  · unfold allowed nearNow newHangover declared
    rw [h]
    decide +kernel
  · unfold allowed
    simp

theorem witness_SampleFillsTheAccumulators :
    FrameDue 27 (atFrame 27 { channel20 with custody := .test }) ∧
      ((atFrame 27 { channel20 with custody := .test }).chan 27).custody ≠ .idle ∧
      ((atFrame 27 { channel20 with custody := .test }).chan 27).params.valid = true := by
  unfold FrameDue Running
  decide +kernel

theorem witness_IdleBlockEndEmptiesTheBlock :
    BlockDue 5 (atBlockEnd 5 { Channel.powerOn with capturePending := true }) ∧
      ((atBlockEnd 5 { Channel.powerOn with capturePending := true }).chan 5).custody = .idle ∧
      (State.reset.highway.lock ≠ .locked ∧ ((locked State.reset).chan 5).blockDue = false) := by
  unfold BlockDue Running
  decide +kernel

/-- Channel 4 in CALL at its block end with the near-speech items given. -/
def closing (n : Near) : State := atBlockEnd 4 { inCall Channel.powerOn with near := n }

/-- Each class at its edge: 16·Pe = Ps, one more, Pe = 2·Ps, one more; 19 adapted samples are not enough. -/
theorem witness_BlockEndMovesConvergence :
    (BlockDue 4 (closing (nearOf 62500000 .converging)) ∧
        ((closing (nearOf 62500000 .converging)).chan 4).custody ≠ .idle) ∧
      GoodBlock (nearOf 62500000 .converging) ∧ GoodBlock { nearOf 62500000 .converged with ac := 20 } ∧
      NonGoodBlock (nearOf 62500001 .converging) ∧ NonGoodBlock (nearOf 2000000000 .converged) ∧
      DivergingBlock (nearOf 2000000001 .converged) ∧
      ¬Qualified { nearOf 62500000 .converging with ac := 19 } ∧
      ¬Recovers { nearOf 2000000001 .converged with divRun := 1, badRun := 3 } ∧
      ¬Recovers { nearOf 2000000001 .converging with divRun := 1 } ∧
      Recovers { nearOf 2000000001 .converging with divRun := 2 } ∧
      Recovers { nearOf 2000000001 .converged with divRun := 2, badRun := 3 } := by
  unfold BlockDue Running GoodBlock NonGoodBlock Recovers DivergingBlock Qualified
  decide +kernel

/-- Channel 18 at its block end, QUIET with a run of 79 (4.6), and BYPASSED with a quiet run of 49. -/
def toned (bypassed : Bool) : State :=
  atBlockEnd 18
    { inCall Channel.powerOn with
      tone :=
        { Tone.powerOn with
          observed := 40, bypassed := bypassed, quietRun := 49
          exchange := { ToneDir.powerOn with crossings := 21, power := 2000000, prevPower := 2000000, run := 79 }
          trunk := { ToneDir.powerOn with power := 199999 } } }

theorem witness_BlockEndJudgesTheTone :
    BlockDue 18 (toned false) ∧ ((toned false).chan 18).custody ≠ .idle ∧
      ((toned false).chan 18).tone.bypassed = false ∧
      ToneLike ((toned false).chan 18).tone.observed ((toned false).chan 18).tone.exchange ∧
      ¬ToneLike ((toned false).chan 18).tone.observed ((toned false).chan 18).tone.trunk ∧
      BlockDue 18 (toned true) ∧ ((toned true).chan 18).tone.bypassed = true := by
  unfold BlockDue Running ToneLike
  decide +kernel

theorem witness_BlockEndSetsTheLevels :
    BlockDue 21 (atBlockEnd 21 channel21) ∧ ((atBlockEnd 21 channel21).chan 21).custody ≠ .idle := by
  unfold BlockDue Running
  decide +kernel

theorem witness_BlockEndHandsItsRecordsInOrder :
    BlockDue 21 (atBlockEnd 21 channel21) ∧ ((atBlockEnd 21 channel21).chan 21).custody ≠ .idle ∧
      Recovers ((atBlockEnd 21 channel21).chan 21).near ∧ ¬Recovers (nearOf 0 .converged) := by
  unfold BlockDue Running Recovers DivergingBlock Qualified
  decide +kernel

theorem witness_HandOverWritesOrDrops :
    tightRing.slots.get tightRing.writePos = .device ∧
      Ring.powerOn.slots.get Ring.powerOn.writePos = .device ∧
      tightRing.slots.get (Ring.writePos { tightRing with writePos := 14 }) ≠ .device := by
  decide +kernel

/-- Four free slots for six (9.5), none for six, and an empty ring for six. -/
theorem witness_CaptureIsWholeTruncatedOrDropped :
    (6 = channel21.params.window / 64 ∧ 4 = min 6 4 ∧ 6 ≤ 8 ∧
        (∀ j, j < 4 → tightRing.slots.get (tightRing.slotFrom j) = .device) ∧
        tightRing.slots.get (tightRing.slotFrom 4) ≠ .device) ∧
      tightRing.slots.get (Ring.slotFrom { tightRing with writePos := 14 } 0) ≠ .device ∧
      ∀ j, j < 64 → Ring.powerOn.slots.get (Ring.powerOn.slotFrom j) = .device := by
  decide +kernel

theorem witness_SecondTickAdvancesTheClock :
    Running (atTick Clock.powerOn) ∧ (atTick Clock.powerOn).tickDue = true ∧ 1 ≤ 12 ∧
      (State.reset.highway.lock ≠ .locked ∧ (locked State.reset).tickDue = false) := by
  unfold Running
  decide +kernel

theorem witness_SecondTickEvaluatesTheSchedule :
    Running (atTick { Clock.powerOn with state := .stale }) ∧
      (atTick { Clock.powerOn with state := .stale }).tickDue = true := by
  unfold Running
  decide +kernel

theorem witness_ReceiverMoves :
    State.reset.resetAsserted = false ∧ (State.reset.link .cLink).rx = .hunt ∧
      ((receiving .cLink .settle).link .cLink).rx = .settle ∧
      ((receiving .cLink .ready).link .cLink).rx = .ready ∧
      ((receiving .cLink (.receiving [0xC5])).link .cLink).rx = .receiving [0xC5] ∧
      ((receiving .cLink (.receiving [0xC5, 2])).link .cLink).rx = .receiving (0xC5 :: 2 :: []) ∧
      ([] : List Byte).length + 3 < (2#8).toNat + 4 ∧
      ((receiving .mLink (.receiving [0xC5, 2, 1, 0])).link .mLink).rx =
        .receiving (0xC5 :: 2 :: [1, 0]) ∧ [(1 : Byte), 0].length + 3 < (2#8).toNat + 4 := by
  decide +kernel

/-- A READ ATTENTION one byte short of its end, on a free link and on a busy one. -/
theorem witness_CompleteFrameIsJudged :
    (receiving .cLink (.receiving [0xC5, 2, 1, 0, 0x91])).resetAsserted = false ∧
      ((receiving .cLink (.receiving [0xC5, 2, 1, 0, 0x91])).link .cLink).rx =
        .receiving (0xC5 :: 2 :: 1 :: 0 :: [] ++ [0x91]) ∧
      (2#8).toNat = ([] : List Byte).length + 2 ∧
      ((receiving .cLink (.receiving [0xC5, 2, 1, 0, 0x91])).link .cLink).busy = false ∧
      (0x91 : Byte) ++ (0xCD : Byte) = crc [2, 1, 0] ∧ (0x91 : Byte) ++ (0xCC : Byte) ≠ crc [2, 1, 0] ∧
      (State.link
        (State.reset.setLink .cLink
          { LinkCtl.powerOn with rx := .receiving [0xC5, 2, 1, 0, 0x91], busy := true }) .cLink).busy =
        true := by
  decide +kernel

theorem witness_FrameOnTheWireRunsItsCommand :
    (Instr.readAttention .cLink 0 []).WellFormed = true ∧
      encodeFrame (.readAttention .cLink 0 []) =
        some (.cLink, [0xC5, 0x02, 0x01, 0x00, 0x91, 0xCD]) ∧
      (receiving .cLink .ready).resetAsserted = false ∧
      ((receiving .cLink .ready).link .cLink).rx = .ready ∧
      ((receiving .cLink .ready).link .cLink).busy = false := by
  decide +kernel

theorem witness_FramesDecodeToTheirCommand :
    (Instr.writeProfile .mLink 0xFF (List.replicate 58 0xFF)).WellFormed = true ∧
      (Instr.writeProfile .mLink 0xFF (List.replicate 58 0xFF)).command ≠ none := by
  decide +kernel

/-- A busy link; BLOCK, a row of the M-link alone, on the C-link; RESTART CHANNEL with the M-link's one parameter on the
C-link; a CODE of no row. -/
theorem witness_CommandsAreCheckedInOrder :
    ((after (.timeRead .cLink 0 []) State.reset).link .cLink).busy = true ∧
      (after (.timeRead .cLink 0 []) State.reset).resetAsserted = false ∧
      (State.reset.link .cLink).busy = false ∧
      (⟨0x13, .block, none, some 1⟩ ∈ catalogue ∧
        CatalogueRow.onLink ⟨0x13, .block, none, some 1⟩ .cLink = none) ∧
      (⟨0x16, .restartChannel, some 3, some 1⟩ ∈ catalogue ∧
        CatalogueRow.onLink ⟨0x16, .restartChannel, some 3, some 1⟩ .cLink = some 3 ∧
        [(5 : Byte)].length ≠ 3) ∧
      ∀ row ∈ catalogue, row.code ≠ 0x7F := by
  refine ⟨by decide +kernel, by decide +kernel, by decide +kernel, ⟨?_, rfl⟩, ⟨?_, rfl, by decide⟩, ?_⟩
  · simp [catalogue, onlyOnM]
  · simp [catalogue, onBoth]
  · simp [catalogue, onlyOnC, onlyOnM, onBoth]

theorem witness_RefusedCommandsChangeNothing : Free .cLink State.reset := ⟨rfl, rfl⟩

theorem witness_ReadAttentionListsAndClears : Free .mLink (after (.expectedPosition false) nearlyLost) := by
  unfold Free
  decide +kernel

theorem witness_MaskAndRestartCommands :
    Free .mLink State.reset ∧ 6 < (7#8).toNat ∧ (6#8).toNat = (6 : Fin 7).val ∧
      (0#8).toNat = (0 : Fin 7).val := by
  unfold Free
  decide +kernel

/-- Each command of a call or test finds a free link and, in `blocked26`, a call with a block pending; the statements'
case splits are on the state alone. -/
theorem witness_calls_and_tests :
    Free .cLink blocked26 ∧ Free .mLink blocked26 ∧ (blocked26.chan 26).custody = .call 902 allOn true ∧
      (blocked26.chan 25).custody = .idle ∧ num 0x03 0x86 = 902 := by
  unfold Free
  decide +kernel

theorem witness_SeizeEntersCallOrIsRefused : Free .cLink blocked26 := ⟨rfl, rfl⟩

theorem witness_CallsEndWithTheirSummary : Free .cLink blocked26 ∧ Free .mLink blocked26 :=
  ⟨⟨rfl, rfl⟩, ⟨rfl, rfl⟩⟩

theorem witness_ModifyCallSetsTheOptions : Free .cLink blocked26 := ⟨rfl, rfl⟩

theorem witness_BlockAndUnblock : Free .mLink blocked26 := ⟨rfl, rfl⟩

theorem witness_RestartChannelClearsTheSignal : Free .cLink blocked26 ∧ Free .mLink blocked26 :=
  ⟨⟨rfl, rfl⟩, ⟨rfl, rfl⟩⟩

theorem witness_AssignAppliesTheGroupsProfile : Free .mLink blocked26 := ⟨rfl, rfl⟩

/-- A capture slot of 64 taps, and the taps at both ends of their range. -/
theorem witness_ReadsAnswerAndChangeNothing :
    Free .cLink blocked26 ∧ (List.replicate 64 (0 : Int)).length = 64 ∧
      (-4194304 ≤ (-4194304 : Int) ∧ (-4194304 : Int) ≤ 4194303) ∧
      tapData (-4194304) = [0xC0, 0x00, 0x00] ∧ tapData 4194303 = [0x3F, 0xFF, 0xFF] :=
  ⟨⟨rfl, rfl⟩, by decide, by decide, by decide, by decide⟩

theorem witness_SetBaseSetsTheLinksBase :
    Free .mLink base24 ∧ (after .resetAssert State.reset).resetAsserted = true ∧
      (restarting.resetAsserted = false ∧ restarting.restartPending = true ∧
        restarting.links.m.tx.isSome = true) :=
  ⟨⟨rfl, rfl⟩, witness_PowerOnRecordsAndRing, witness_RestartAwaitsItsResponse.1⟩

theorem witness_FlagCommandsAddressByBase : Free .mLink base24 := ⟨rfl, rfl⟩

/-- Displacements −17, 16 and −16, 15, counts 0, 17 and 1, 16; runs that begin below 0, end at 31 and end at 32. -/
theorem witness_FieldCommandsCoverARun :
    Free .mLink base24 ∧ (0xEF#8).toInt < -16 ∧ 15 < (0x10#8).toInt ∧ (0#8).toNat = 0 ∧ 16 < (17#8).toNat ∧
      (-16 ≤ (0xF0#8).toInt ∧ (0x0F#8).toInt ≤ 15) ∧
      addressedBy .cLink 0xFF base24 < 0 ∧
      (addressedBy .mLink 0xF8 base24 = (16 : Nat) ∧ 16 + (16#8).toNat ≤ 32) ∧
      32 < addressedBy .mLink 0xF9 base24 + (16#8).toNat ∧
      (addressedBy .mLink 0x07 base24 = (31 : Nat) ∧ 31 + (1#8).toNat ≤ 32) ∧
      (3#8 ≠ 1#8 ∧ 3#8 ≠ 2#8) ∧ num 0x0F 0x01 < 2 ^ (12#8).toNat := by
  unfold Free
  decide +kernel

theorem witness_RequestCaptureSetsTheMark : Free .mLink blocked26 := ⟨rfl, rfl⟩

theorem witness_HoldAndResumeProfile : Free .mLink (held9 860) := ⟨rfl, rfl⟩

/-- A valid set for profile 9; a number of 0, a number of 16, and 34 bytes of 0xFF, which no valid set spells. -/
theorem witness_WriteProfileReplacesEveryField :
    Free .mLink (held9 880) ∧ ((9#8).toNat = (9 : ProfileNo).val ∧ (9 : ProfileNo) ≠ 0 ∧
        InRange (radio 860)) ∧
      (0#8).toNat = 0 ∧ 16 ≤ (16#8).toNat ∧ (List.replicate 34 (0xFF : Byte)).length = 34 ∧
      ∀ q : ParamSet, InRange q → fieldData q ≠ List.replicate 34 0xFF := by
  refine ⟨⟨rfl, rfl⟩, ⟨by decide, by decide, ?_⟩, by decide +kernel, by decide +kernel, by decide +kernel, ?_⟩
  · unfold InRange LevelInRange
    decide +kernel
  intro q _ h
  have h13 : (fieldData q)[13]? = some 0xFF := by rw [h]; rfl
  have : (fieldData q)[13]? = some (mark q.toneEnable) := rfl
  rw [this] at h13
  revert h13
  cases q.toneEnable <;> decide

theorem witness_WriteGroupSetsTheDefault : Free .mLink (group3 [7] 7) := ⟨rfl, rfl⟩

theorem witness_OverridePushAndPop : Free .mLink (group3 [7, 7, 4, 0] 0) := ⟨rfl, rfl⟩

theorem witness_TimeSetLoadsAValidTime : Free .mLink (after (.expectedPosition false) nearlyLost) :=
  witness_ReadAttentionListsAndClears

theorem witness_EntriesAreWrittenAndErased : Free .mLink State.reset := ⟨rfl, rfl⟩

theorem witness_ReturnSlotFreesTheSlot : Free .cLink { State.reset with ring := tightRing } := ⟨rfl, rfl⟩

/-- The part with channel 20 in CALL with reference 902 and a history, a tap and gains in use, the M-link's mask 0, and a
command waiting: the invariants below hold there, and its step answers a next state. -/
def lawful : State :=
  { withChan 20
      { inCall Channel.powerOn with
        echo :=
          { history := (Table.replicate 1472 0).set 3 1000, taps := (Table.replicate 512 0).set 3 418570,
            energy := 1000000, peak := 1000 }
        near := { Near.powerOn with conv := .converging, goodRun := 7 }
        rLevel := { Level.powerOn with gain := -6, raiseRun := 19 } } with
    pending := [.readAttention .cLink 0 []] }

theorem witness_lawful_step :
    step lawful = .next (after (.readAttention .cLink 0 []) (lawful.withPending [])) := rfl

theorem witness_StepKeepsWindowMeasures : lawful.Measured := by
  unfold State.Measured State.EveryChannel Channel.Measured
  decide +kernel

theorem witness_StepKeepsSamplesAndCoefficients : lawful.SamplesSound ∧ lawful.CoefficientsSound := by
  unfold State.SamplesSound State.CoefficientsSound State.EveryChannel Channel.SamplesInRange inSampleRange
    Channel.TapsInRange Channel.TailZero Channel.UntrainedZero
  decide +kernel

theorem witness_StepKeepsCountsAndLevels : lawful.CountsSound ∧ lawful.LevelsSound := by
  unfold State.CountsSound State.LevelsSound State.EveryChannel Channel.RunsBounded Stats.Bounded
    Channel.GainsInBounds
  decide +kernel

theorem lawful_custody :
    ∀ ch : ChannelNo, (lawful.chan ch).custody = if ch = 20 then .call 902 allOn false else .idle := by
  decide +kernel

theorem lawful_holdsRef (ch : ChannelNo) (ref : Nat) (h : (lawful.chan ch).holdsRef ref = true) :
    ch = 20 ∧ ref = 902 := by
  unfold Channel.holdsRef at h
  rw [lawful_custody] at h
  by_cases hc : ch = 20
  · rw [if_pos hc] at h
    exact ⟨hc, (of_decide_eq_true h).symm⟩
  · rw [if_neg hc] at h
    cases h

theorem witness_StepKeepsReferencesUnique : lawful.ReferencesUnique := by
  constructor
  · intro ch ref h
    have := lawful_holdsRef ch ref h
    omega
  · intro a b ref ha hb
    rw [(lawful_holdsRef a ref ha).1, (lawful_holdsRef b ref hb).1]

theorem witness_StepKeepsGroupsAndClock :
    (lawful.GroupsSound ∧ lawful.ProfileZeroFixed) ∧ lawful.ClockSound := by
  unfold State.GroupsSound State.ProfileZeroFixed State.ClockSound State.EveryChannel
  decide +kernel

/-- Ring and links: `tightRing` with its report made, a response in transit on the M-link and a restart waiting. -/
def busyLinks : State :=
  after (.deviceRestart .mLink 0 []) (State.reset.withRing tightRing)

theorem witness_StepKeepsLinksAndRing :
    busyLinks.SlotsSound ∧ busyLinks.ReportsCurrent ∧ busyLinks.LinesFollow ∧ busyLinks.TransmittersSound ∧
      step busyLinks = .next busyLinks := by
  refine ⟨?_, ?_, ?_, ?_, rfl⟩
  · intro i l r h
    have h14 : ∀ k : SlotNo, busyLinks.ring.slots.get k = if k = 14 then tightRing.slots.get 14 else .device := by
      decide +kernel
    rw [h14 i] at h
    split at h
    · injection h with h1 h2
      rw [← h2, ← h1]
    · cases h
  · intro l
    cases l <;> decide +kernel
  · intro l
    cases l <;> decide +kernel
  · refine ⟨fun l => ?_, by decide +kernel⟩
    cases l <;> decide +kernel

theorem witness_StepKeepsTheHighwaySilentOutOfLock :
    nearlyLost.HighwaySound ∧ (sevenPulses .lost).HighwaySound ∧
      step (nearlyLost.withPending [.expectedPosition false]) =
        .next (after (.expectedPosition false) nearlyLost) := by
  refine ⟨?_, ?_, rfl⟩ <;>
  · unfold State.HighwaySound State.EveryChannel
    decide +kernel

end Sys2Proof.Tests
end

section
/-! PROOFS. Commands of the channel table (chapter 6): how a taken command's reply becomes a response, what each
command's checks answer, and the statements on power-on, custody, SET BASE and the field commands. -/

namespace Sys2Proof.Machine

open Sys2Proof.Claims

/-! ### A taken command answers by its owning block -/

section taken

variable {op : Opcode} {l : Link} {tag : Byte} {ps : List Byte} {body : State → Reply} {s : State}

/-- On a free link a command with the right parameter count goes to its owning block (R205, R208). -/
theorem takeCommand_free (hs : Free l s) (ha : op.admitted l = true) (hl : ps.length = op.paramCount l) :
    takeCommand op l tag ps body s = (body s).send l op.code tag :=
  takeCommand_taken hs.1 hs.2 ha hl

/-! The response to each form of reply, in the statements' words (R207, R208). -/

@[simp] theorem State.refuse_send (r : Result) :
    (s.refuse r).send l op.code tag = respond l op tag r [] s := rfl

@[simp] theorem State.answer_send : s.answer.send l op.code tag = respond l op tag .ok [] s := rfl

@[simp] theorem State.answerData_send (data : List Byte) :
    (s.answerData data).send l op.code tag = respond l op tag .ok data s := rfl

/-- The channel check of R108: the command goes on with a channel of 0..31, any other is BAD_CHANNEL. -/
theorem withChannel_send {b : Byte} {k : ChannelNo → Reply} {t : b.toNat < 32 → State}
    (h : ∀ hb, (k ⟨b.toNat, hb⟩).send l op.code tag = t hb) :
    (withChannel b s k).send l op.code tag =
      if hb : b.toNat < 32 then t hb else respond l op tag .badChannel [] s := by
  unfold withChannel parseFin
  by_cases hb : b.toNat < 32
  · simp only [dif_pos hb, h]
  · simp only [dif_neg hb, State.refuse_send]

end taken

/-! ### Custody: numbers, options, references, the start clear, the end of a call -/

/-- The model's two-byte number is the statements' (R219). -/
theorem u16_eq_num (hi lo : Byte) : u16 hi lo = num hi lo := rfl

/-- An options byte with a bit above 2 set is out of range (11.2). -/
theorem parseOptions_eq_none {o : Byte} (h : 8 ≤ o.toNat) : parseOptions o = none :=
  if_neg (by omega)

theorem parseOptions_eq_some {o : Byte} (h : ¬8 ≤ o.toNat) : parseOptions o = some (optionsOf o) :=
  if_pos (by omega)

/-- A reference is in use when some channel's call holds it (R109). -/
theorem State.refInUse_iff (s : State) (ref : Nat) :
    s.refInUse ref = true ↔ ∃ k : ChannelNo, (s.chan k).holdsRef ref = true := by
  unfold State.refInUse
  rw [List.any_eq_true]
  constructor
  · rintro ⟨c, hc, h⟩
    obtain ⟨k, rfl⟩ := Table.mem_data hc
    exact ⟨k, h⟩
  · rintro ⟨k, h⟩
    exact ⟨s.chan k, Table.get_mem _ k, h⟩

/-- The start clear is the one R111 lists field by field. -/
theorem Channel.startClear_eq_started (c : Channel) : c.startClear = started c := rfl

/-- The summary of a channel in CALL is that of R132 with its reference. -/
theorem Channel.summary_of_call {c : Channel} {ref : Nat} {o : CallOptions} {blocked : Bool}
    (h : c.custody = .call ref o blocked) (why : EndReason) :
    c.summary why = summaryOf c (some ref) why := by
  simp [Channel.summary, summaryOf, h, Bool.or_assoc]

/-- The summary of a channel in TEST carries no reference (R132). -/
theorem Channel.summary_of_test {c : Channel} (h : c.custody = .test) (why : EndReason) :
    c.summary why = summaryOf c none why := by
  simp [Channel.summary, summaryOf, h, Bool.or_assoc]

/-- The end of a call is its summary and the channel's way out of CALL, by its block-pending mark (R112, R117). -/
theorem State.endCall_eq_callEnded {s : State} {ch : ChannelNo} {ref : Nat} {o : CallOptions} {blocked : Bool}
    (h : (s.chan ch).custody = .call ref o blocked) (why : EndReason) :
    s.endCall ch why = callEnded ch why ref blocked s := by
  have hmark : (s.chan ch).blockPending = blocked := by simp [Channel.blockPending, h]
  unfold State.endCall State.handSummary callEnded Channel.leaveCall
  simp only [hmark, Channel.summary_of_call h]
  cases blocked <;> rfl

/-- The check of CLEAR and MODIFY CALL in each custody (R112, R114). -/
theorem withCall_of_call {s : State} {ch : ChannelNo} {r : Nat} {o : CallOptions} {blocked : Bool}
    (h : (s.chan ch).custody = .call r o blocked) (ref : Nat) (k : CallOptions → Bool → Reply) :
    withCall ch ref s k = if r = ref then k o blocked else s.refuse .callMismatch := by
  simp [withCall, h]

theorem withCall_of_idle {s : State} {ch : ChannelNo} (h : (s.chan ch).custody = .idle) (ref : Nat)
    (k : CallOptions → Bool → Reply) : withCall ch ref s k = s.refuse .wrongState := by
  simp [withCall, h]

theorem withCall_of_test {s : State} {ch : ChannelNo} (h : (s.chan ch).custody = .test) (ref : Nat)
    (k : CallOptions → Bool → Reply) : withCall ch ref s k = s.refuse .wrongState := by
  simp [withCall, h]

end Sys2Proof.Machine

open Sys2Proof Sys2Proof.Machine Sys2Proof.Claims

/-! ### SEIZE, CLEAR, FORCE RELEASE, BLOCK, UNBLOCK -/

/-- Settles O36: the checks of R110 in order, then the custody of the channel decides. -/
theorem seizeEntersCallOrIsRefused : Obligations.SeizeEntersCallOrIsRefused := by
  intro tag b r1 r0 o s hs
  refine congrArg _ ((takeCommand_free hs rfl rfl).trans (withChannel_send fun hb => ?_))
  rw [u16_eq_num]
  by_cases ho : 8 ≤ o.toNat
  · rw [parseOptions_eq_none ho, if_pos (.inr ho)]
    rfl
  by_cases href : num r1 r0 = 0
  · simp only [parseOptions_eq_some ho, href, true_or, if_true, State.refuse_send]
  simp only [parseOptions_eq_some ho, href, ho, or_self, if_false]
  cases hk : (s.chan ⟨b.toNat, hb⟩).custody with
  | call r opts blocked => rfl
  | test => rfl
  | idle =>
    by_cases hdup : s.refInUse (num r1 r0) = true
    · have held := (s.refInUse_iff _).mp hdup
      simp only [if_pos hdup, if_pos held, State.refuse_send]
    · have free := mt (s.refInUse_iff _).mpr hdup
      simp only [if_neg hdup, if_neg free, State.answer_send, Channel.startClear_eq_started]

/-- Settles O37: each custody of the channel in turn; a call's end is `callEnded` by `State.endCall_eq_callEnded`. -/
theorem callsEndWithTheirSummary : Obligations.CallsEndWithTheirSummary := by
  refine ⟨fun tag b r1 r0 s hs => ?_, fun tag b s hs => ?_⟩
  · refine congrArg _ ((takeCommand_free hs rfl rfl).trans (withChannel_send fun hb => ?_))
    rw [u16_eq_num]
    by_cases href : num r1 r0 = 0
    · simp only [if_pos href, State.refuse_send]
    simp only [if_neg href]
    cases hk : (s.chan ⟨b.toNat, hb⟩).custody with
    | idle => rw [withCall_of_idle hk, State.refuse_send]
    | test => rw [withCall_of_test hk, State.refuse_send]
    | call ref o blocked =>
      rw [withCall_of_call hk, State.endCall_eq_callEnded hk]
      by_cases same : ref = num r1 r0
      · simp only [if_pos same, State.answer_send]
      · simp only [if_neg same, State.refuse_send]
  · refine congrArg _ ((takeCommand_free hs rfl rfl).trans (withChannel_send fun hb => ?_))
    cases hk : (s.chan ⟨b.toNat, hb⟩).custody with
    | idle => rfl
    | test => rfl
    | call ref o blocked =>
      dsimp only
      rw [State.endCall_eq_callEnded hk]
      rfl

/-- Settles O39: each custody of the channel, a call with and without its block-pending mark. -/
theorem blockAndUnblock : Obligations.BlockAndUnblock := by
  refine ⟨fun tag b s hs => ?_, fun tag b s hs => ?_⟩
  · refine congrArg _ ((takeCommand_free hs rfl rfl).trans (withChannel_send fun hb => ?_))
    match hk : (s.chan ⟨b.toNat, hb⟩).custody with
    | .idle => rfl
    | .call ref o false => rfl
    | .call ref o true => rfl
    | .test => rfl
  · refine congrArg _ ((takeCommand_free hs rfl rfl).trans (withChannel_send fun hb => ?_))
    match hk : (s.chan ⟨b.toNat, hb⟩).custody with
    | .idle => rfl
    | .call ref o true => rfl
    | .call ref o false => rfl
    | .test =>
      dsimp only
      rw [State.handSummary, Channel.summary_of_test hk]
      rfl
end

section
/-! PROOFS. The part after RESET_RELEASE and after DEVICE RESTART, SET BASE, and the power-on statement. -/

namespace Sys2Proof.Machine

open Sys2Proof.Claims

/-! ### The part right after the release of RESET_N (R199) -/

/-- The power-on state that RESET_RELEASE answers; the model's own queue and counter are kept (assumption 5). -/
def State.released (s : State) : State := { State.reset with freeDraws := s.freeDraws, pending := s.pending }

theorem exec_resetRelease {s : State} (h : s.resetAsserted = true) :
    exec .resetRelease s = .next s.released :=
  congrArg _ (if_pos h)

@[simp] theorem State.released_chan (s : State) (ch : ChannelNo) : s.released.chan ch = Channel.powerOn :=
  Table.get_replicate _ _

@[simp] theorem State.released_link (s : State) (l : Link) : s.released.link l = LinkCtl.powerOn := by
  cases l <;> rfl

@[simp] theorem State.released_profile (s : State) (p : ProfileNo) :
    s.released.profiles.get p = Profile.powerOn :=
  Table.get_replicate _ _

@[simp] theorem State.released_group (s : State) (g : GroupNo) : s.released.groups.get g = Group.powerOn :=
  Table.get_replicate _ _

@[simp] theorem State.released_entry (s : State) (i : EntryNo) :
    s.released.schedule.get i = Entry.powerOn :=
  Table.get_replicate _ _

@[simp] theorem State.released_ring (s : State) : s.released.ring = Ring.powerOn := rfl

/-- Every slot is the part's after power-on (R197). -/
@[simp] theorem Ring.powerOn_slot (i : SlotNo) : Ring.powerOn.slots.get i = .device :=
  Table.get_replicate _ _

/-- The first record after power-on goes whole into slot 0, with sequence 0 and nothing dropped before it (R197). -/
theorem Ring.powerOn_put (stamp : Stamp) (l : Link) (ch : Option ChannelNo) (p : Payload) :
    (Ring.powerOn.put stamp l ch p).slots.get 0 =
      .owned l
        { dest := l, seq := 0, channel := ch, stamp := stamp, first := true, last := true,
          truncated := false, dropped := 0, payload := p } := by
  rw [Ring.put_free (Ring.powerOn_slot _)]
  refine (Table.get_set_self _ _ _).trans ?_
  cases l <;> rfl

/-! ### The bases after DEVICE RESTART (R126, R201) -/

theorem exec_restartInstant {s : State} (hr : s.resetAsserted = false) (hw : s.restartPending = true) :
    exec .restartInstant s = .next s.restart := by
  simp [exec, execRestartInstant, hr, hw]

/-- The end of a response on the M-link with a restart waiting is the restart (R200, assumption 9). -/
theorem exec_responseSent_restart {s : State} (hr : s.resetAsserted = false)
    (hw : s.restartPending = true) (ht : s.links.m.tx.isSome = true) :
    exec (.responseSent .mLink) s = .next s.restart := by
  have sending : (s.link .mLink).tx.isNone = false := by
    rw [← Option.not_isSome]
    exact congrArg not ht
  simp [exec, execResponseSent, State.restartsNow, hr, hw, sending]

@[simp] theorem State.restart_base (s : State) (l : Link) : (s.restart.link l).base = 0 := by
  cases l <;> rfl

end Sys2Proof.Machine

open Sys2Proof Sys2Proof.Machine Sys2Proof.Claims

/-- Settles O5: RESET_RELEASE answers `State.released`, whose parts are the power-on values. -/
theorem powerOnRecordsAndRing : Obligations.PowerOnRecordsAndRing := by
  refine ⟨fun s hs => ⟨_, exec_resetRelease hs, ?_⟩, fun s hs => ⟨_, exec_resetRelease hs, ?_⟩,
    fun s hs => ⟨_, exec_resetRelease hs, ?_⟩⟩
  · refine ⟨rfl, rfl, rfl, fun ch => ?_⟩
    rw [State.released_chan, State.released_profile]
    exact ⟨rfl, rfl, rfl, rfl, rfl, rfl, rfl, rfl, rfl, fun _ => rfl⟩
  · refine ⟨fun i => ?_, rfl, fun l => ?_, fun ch => ?_, fun stamp l ch p => ?_⟩
    · rw [State.released_ring, Ring.powerOn_slot]
    · cases l <;> exact ⟨rfl, rfl⟩
    · rw [State.released_chan]
      rfl
    · rw [State.released_ring, Ring.powerOn_put]
  · refine ⟨fun l => ?_, rfl, rfl, rfl, rfl, rfl, rfl, fun i => ?_, fun p => ?_, fun g => ?_,
      fun ch => ?_⟩
    · rw [State.released_link]
      rfl
    · rw [State.released_entry]
      rfl
    · rw [State.released_profile]
      rfl
    · rw [State.released_group]
      rfl
    · rw [State.released_chan]
      exact ⟨rfl, rfl, rfl, rfl, rfl, rfl, rfl⟩

/-- Settles O43: the channel check guards the one write; the bases after power-on and after the restart are 0. -/
theorem setBaseSetsTheLinksBase : Obligations.SetBaseSetsTheLinksBase := by
  refine ⟨fun l tag b s hs => ?_, fun s hs => ?_, fun s hr hw => ⟨?_, fun ht => ?_⟩⟩
  · refine congrArg _ ((takeCommand_free hs rfl rfl).trans (withChannel_send fun _ => ?_))
    rw [State.answer_send]
  · exact ⟨_, exec_resetRelease hs, fun l => by rw [State.released_link]; rfl⟩
  · exact ⟨_, exec_restartInstant hr hw, State.restart_base s⟩
  · exact ⟨_, exec_responseSent_restart hr hw ht, State.restart_base s⟩
end

section
/-! PROOFS. The flag commands' checks, the flags of a run of channels as a number, and FIELD WRITE and FIELD READ. -/

namespace Sys2Proof.Machine

open Sys2Proof.Claims

/-! ### The checks of R127 and R128 -/

/-- A displacement fails its check outside −16..+15 (R127). -/
theorem dispOk_eq_false_iff (d : Byte) : dispOk d = false ↔ d.toInt < -16 ∨ 15 < d.toInt := by
  rw [dispOk, Bool.and_eq_false_iff, decide_eq_false_iff_not, decide_eq_false_iff_not, not_le, not_le]
  rfl

theorem channelAt_eq_none {n : Int} (h : ¬(0 ≤ n ∧ n < 32)) : channelAt n = none := dif_neg h

/-- A channel's own number addresses it. -/
theorem channelAt_val (ch : ChannelNo) : channelAt (ch.val : Int) = some ch :=
  dif_pos ⟨by omega, by omega⟩

/-- A selector other than 1 and 2 names no flag (11.2). -/
theorem parseFlag_eq_none {sel : Byte} (h1 : sel ≠ 1#8) (h2 : sel ≠ 2#8) : parseFlag sel = none := by
  unfold parseFlag
  split
  next h => exact absurd (BitVec.eq_of_toNat_eq h) h1
  next h => exact absurd (BitVec.eq_of_toNat_eq h) h2
  next => rfl

/-- Selector 1 or 2 names a flag, which is read and set as the statements say (11.2). -/
theorem parseFlag_eq_some {sel : Byte} (h : sel = 1#8 ∨ sel = 2#8) :
    ∃ f, parseFlag sel = some f ∧ (∀ c : Channel, c.flag f = flagOf sel c) ∧
      ∀ (c : Channel) (v : Bool), c.setFlag f v = withFlagSet sel v c := by
  obtain rfl | rfl := h
  · exact ⟨.forceBypass, rfl, fun _ => rfl, fun _ _ => rfl⟩
  · exact ⟨.freeze, rfl, fun _ => rfl, fun _ _ => rfl⟩

section field

variable {l : Link} {d n f : Byte} {s : State} {k : ChannelNo → Nat → FlagName → Reply}

/-- A displacement or a count out of range (R128, first check). -/
theorem withField_badValue
    (h : d.toInt < -16 ∨ 15 < d.toInt ∨ n.toNat = 0 ∨ 16 < n.toNat) :
    withField l d n f s k = s.refuse .badValue :=
  if_pos (by rw [dispOk_eq_false_iff]; omega)

/-- Displacement and count in range: the checks go on with the addressed channel (R128). -/
theorem withField_inRange (h1 : -16 ≤ d.toInt) (h2 : d.toInt ≤ 15) (h3 : 1 ≤ n.toNat) (h4 : n.toNat ≤ 16) :
    withField l d n f s k =
      match channelAt (addressedBy l d s) with
      | none => s.refuse .badChannel
      | some ch =>
        if 32 < ch.val + n.toNat then s.refuse .badChannel
        else match parseFlag f with
          | none => s.refuse .badValue
          | some flag => k ch n.toNat flag :=
  if_neg (by rw [dispOk_eq_false_iff]; omega)

/-- A run that leaves 0..31 at either end (R128, second check). -/
theorem withField_badChannel (h1 : -16 ≤ d.toInt) (h2 : d.toInt ≤ 15) (h3 : 1 ≤ n.toNat) (h4 : n.toNat ≤ 16)
    (h : addressedBy l d s < 0 ∨ 32 < addressedBy l d s + n.toNat) :
    withField l d n f s k = s.refuse .badChannel := by
  rw [withField_inRange h1 h2 h3 h4]
  by_cases hc : 0 ≤ addressedBy l d s ∧ addressedBy l d s < 32
  · obtain ⟨ch, hch⟩ : ∃ ch : ChannelNo, addressedBy l d s = (ch.val : Int) :=
      ⟨⟨(addressedBy l d s).toNat, by omega⟩, by simp only; omega⟩
    rw [hch, channelAt_val]
    exact if_pos (by omega)
  · rw [channelAt_eq_none hc]

/-- A run of channels within 0..31: the selector decides (R128, third check). -/
theorem withField_run (h1 : -16 ≤ d.toInt) (h2 : d.toInt ≤ 15) (h3 : 1 ≤ n.toNat) (h4 : n.toNat ≤ 16)
    {ch : ChannelNo} (ha : addressedBy l d s = (ch.val : Int)) (hrun : ch.val + n.toNat ≤ 32) :
    withField l d n f s k =
      match parseFlag f with
      | none => s.refuse .badValue
      | some flag => k ch n.toNat flag := by
  rw [withField_inRange h1 h2 h3 h4, ha, channelAt_val]
  exact if_neg (by omega)

end field

/-! ### The value of a run of flags -/

/-- The value's number is that of its two bytes, high byte first. -/
theorem fieldValue_toNat (hi lo : Byte) : (fieldValue hi lo).toNat = num hi lo := by
  rw [fieldValue, BitVec.toNat_append, ← Nat.shiftLeft_add_eq_or_of_lt lo.isLt, Nat.shiftLeft_eq]
  rfl

/-- Position `i` of the value is bit `i` of the number (R128). -/
theorem fieldValue_getLsbD (hi lo : Byte) (i : Nat) :
    (fieldValue hi lo).getLsbD i = (num hi lo).testBit i := by
  rw [← BitVec.testBit_toNat, fieldValue_toNat]

/-- One more position of the number: the flag of the channel there, if the part has that channel. -/
theorem State.fieldNat_succ (s : State) (first : Nat) (f : FlagName) (k : Nat) :
    s.fieldNat first f (k + 1) =
      2 ^ k * (decide (∃ ch : ChannelNo, ch.val = first + k ∧ (s.chan ch).flag f = true)).toNat +
        s.fieldNat first f k := by
  rw [State.fieldNat, Nat.add_comm]
  congr 1
  by_cases hlt : first + k < 32
  · have at_k : channelAt ((first : Int) + k) = some ⟨first + k, hlt⟩ := by
      exact_mod_cast channelAt_val ⟨first + k, hlt⟩
    have only_k : (∃ ch : ChannelNo, ch.val = first + k ∧ (s.chan ch).flag f = true) ↔
        (s.chan ⟨first + k, hlt⟩).flag f = true :=
      ⟨fun ⟨ch, hv, hf⟩ => by rwa [← Fin.ext (a := ch) (b := ⟨first + k, hlt⟩) hv], fun h => ⟨_, rfl, h⟩⟩
    simp only [at_k, only_k]
    cases (s.chan ⟨first + k, hlt⟩).flag f <;> simp
  · have no_channel : ¬∃ ch : ChannelNo, ch.val = first + k ∧ (s.chan ch).flag f = true :=
      fun ⟨ch, hv, _⟩ => hlt (hv ▸ ch.isLt)
    rw [channelAt_eq_none (by omega)]
    simp [no_channel]

theorem State.fieldNat_lt (s : State) (first : Nat) (f : FlagName) (count : Nat) :
    s.fieldNat first f count < 2 ^ count := by
  induction count with
  | zero => exact Nat.one_pos
  | succ k ih =>
    have bit := Bool.toNat_le
      (decide (∃ ch : ChannelNo, ch.val = first + k ∧ (s.chan ch).flag f = true))
    have top := Nat.mul_le_mul_left (2 ^ k) bit
    rw [State.fieldNat_succ, Nat.pow_succ]
    omega

/-- Position `k` of the number is the flag of channel `first + k` (R129). -/
theorem State.fieldNat_testBit (s : State) (first : Nat) (f : FlagName) (count k : Nat) :
    (s.fieldNat first f count).testBit k = true ↔
      k < count ∧ ∃ ch : ChannelNo, ch.val = first + k ∧ (s.chan ch).flag f = true := by
  induction count with
  | zero => simp [State.fieldNat]
  | succ m ih =>
    rw [State.fieldNat_succ, Nat.testBit_two_pow_mul_add _ (s.fieldNat_lt first f m)]
    rcases Nat.lt_trichotomy k m with hk | rfl | hk
    · rw [if_pos hk, ih]
      simp only [hk, Nat.lt_succ_of_lt hk]
    · rw [if_neg (lt_irrefl k), Nat.sub_self, Nat.testBit_bool_toNat]
      simp only [decide_true, Bool.true_and, decide_eq_true_eq, Nat.lt_succ_self, true_and]
    · rw [if_neg (by omega), Nat.testBit_bool_toNat]
      simp only [show k - m ≠ 0 by omega, show ¬k < m + 1 by omega, decide_false, Bool.false_and,
        Bool.false_eq_true, false_and]

/-- FIELD WRITE sets the flags of the run from the bits of its number (R128). -/
theorem State.putField_eq {f : FlagName} {sel : Byte} (s : State) (ch : ChannelNo) (count : Nat)
    (v1 v0 : Byte) (hset : ∀ (c : Channel) (v : Bool), c.setFlag f v = withFlagSet sel v c) :
    s.putField ch count f (fieldValue v1 v0) =
      { s with
        channels :=
          s.channels.mapIdx fun i c =>
            if ch.val ≤ i ∧ i < ch.val + count then
              withFlagSet sel ((num v1 v0).testBit (i - ch.val)) c
            else c } := by
  simp only [State.putField, hset, fieldValue_getLsbD]

/-! ### Taken on a free link -/

section taken

variable {l : Link} {tag d n sel v1 v0 : Byte} {s : State}

theorem exec_fieldWrite (hs : Free l s) :
    exec (.fieldWrite l tag [d, n, sel, v1, v0]) s =
      .next
        ((withField l d n sel s fun ch count flag =>
          if num v1 v0 < 2 ^ count then (s.putField ch count flag (fieldValue v1 v0)).answer
          else s.refuse .badValue).send l Opcode.fieldWrite.code tag) := by
  simp only [← fieldValue_toNat]
  exact congrArg _ (takeCommand_free hs rfl rfl)

theorem exec_fieldRead (hs : Free l s) :
    exec (.fieldRead l tag [d, n, sel]) s =
      .next
        ((withField l d n sel s fun ch count flag =>
          s.answerData (u16Bytes (s.fieldNat ch.val flag count))).send l Opcode.fieldRead.code tag) :=
  congrArg _ (takeCommand_free hs rfl rfl)

end taken

end Sys2Proof.Machine

open Sys2Proof Sys2Proof.Machine Sys2Proof.Claims

/-- Settles O45: both commands share the checks of `withField`; then `State.putField_eq` says what is written and
`State.fieldNat_testBit` what is read. -/
theorem fieldCommandsCoverARun : Obligations.FieldCommandsCoverARun := by
  intro l tag d n sel v1 v0 s hs
  rw [exec_fieldWrite hs, exec_fieldRead hs]
  refine ⟨fun hbad => ?_, fun h1 h2 h3 h4 =>
    ⟨fun hout => ?_, fun first ha hrun => ⟨fun hsel => ?_, fun hsel => ?_⟩⟩⟩
  · simp only [withField_badValue hbad, State.refuse_send, and_self]
  · simp only [withField_badChannel h1 h2 h3 h4 hout, State.refuse_send, and_self]
  · have hch : addressedBy l d s = ((⟨first, by omega⟩ : ChannelNo).val : Int) := ha
    simp only [withField_run h1 h2 h3 h4 hch hrun, parseFlag_eq_none hsel.1 hsel.2, State.refuse_send,
      and_self]
  · have hch : addressedBy l d s = ((⟨first, by omega⟩ : ChannelNo).val : Int) := ha
    obtain ⟨f, hf, hget, hset⟩ := parseFlag_eq_some hsel
    simp only [withField_run h1 h2 h3 h4 hch hrun, hf]
    refine ⟨?_, s.fieldNat first f n.toNat, ?_, fun k => ?_, rfl⟩
    · by_cases hv : num v1 v0 < 2 ^ n.toNat
      · simp only [if_pos hv, State.answer_send, State.putField_eq s _ _ _ _ hset]
      · simp only [if_neg hv, State.refuse_send]
    · calc s.fieldNat first f n.toNat < 2 ^ n.toNat := s.fieldNat_lt first f n.toNat
        _ ≤ 2 ^ 16 := Nat.pow_le_pow_right (by decide) h4
    · simp only [State.fieldNat_testBit, hget]
end

section
/-! PROOFS. OVERRIDE PUSH and OVERRIDE POP (chapter 7): the number check, an apply in the statements' words, and what a
push or a pop leaves. -/

namespace Sys2Proof.Machine

open Sys2Proof.Claims

/-! ### The check of a profile, group, entry or slot number -/

/-- The command goes on with a number below `n`; any other is BAD_VALUE (R138). -/
theorem withNumber_send {op : Opcode} {l : Link} {tag : Byte} {s : State} {n : Nat} {b : Byte}
    {k : Fin n → Reply} {t : b.toNat < n → State}
    (h : ∀ hb, (k ⟨b.toNat, hb⟩).send l op.code tag = t hb) :
    (withNumber n b s k).send l op.code tag =
      if hb : b.toNat < n then t hb else respond l op tag .badValue [] s := by
  unfold withNumber parseFin
  by_cases hb : b.toNat < n
  · simp only [dif_pos hb, h]
  · simp only [dif_neg hb, State.refuse_send]

/-- Two number checks in turn: the command goes on when both numbers are in range. -/
theorem withNumber_withNumber_send {op : Opcode} {l : Link} {tag : Byte} {s : State} {n m : Nat} {b c : Byte}
    {k : Fin n → Fin m → Reply} {t : b.toNat < n ∧ c.toNat < m → State}
    (h : ∀ hb hc, (k ⟨b.toNat, hb⟩ ⟨c.toNat, hc⟩).send l op.code tag = t ⟨hb, hc⟩) :
    (withNumber n b s fun i => withNumber m c s fun j => k i j).send l op.code tag =
      if hbc : b.toNat < n ∧ c.toNat < m then t hbc else respond l op tag .badValue [] s := by
  refine (withNumber_send fun hb => withNumber_send fun hc => h hb hc).trans ?_
  by_cases hb : b.toNat < n
  · by_cases hc : c.toNat < m
    · simp only [dif_pos hb, dif_pos hc, dif_pos (And.intro hb hc)]
    · simp only [dif_pos hb, dif_neg hc, dif_neg (mt And.right hc)]
  · simp only [dif_neg hb, dif_neg (mt And.left hb)]

/-! ### An apply (R145 to R147) -/

theorem windowMoves_eq_moved (c : Channel) (q : ParamSet) : windowMoves c.params q = moved q c := by
  rw [Bool.eq_iff_iff]
  simp [windowMoves, moved]

/-- The active channels are those in CALL or TEST. -/
theorem Channel.active_eq_inUse (c : Channel) : c.active = inUse c := by
  unfold Channel.active inUse
  cases c.custody <;> rfl

/-- P and Xpk taken over a window are the sum and the maximum over its places (R19, R20). -/
theorem Echo.measure_eq (p : ParamSet) (e : Echo) :
    e.measure p = { e with energy := windowEnergy p e, peak := windowPeak p e } := by
  rw [Echo.measure, Echo.energy_window, Echo.peak_window]
  rfl

/-- An apply by whether D or W differ and, if so, whether the channel is in use (R146). -/
theorem Channel.applyProfile_eq_applied (n : ProfileNo) (q : ParamSet) (c : Channel) :
    Channel.applyProfile n q c = applied n q c := by
  unfold Channel.applyProfile applied
  rw [windowMoves_eq_moved, Channel.active_eq_inUse]
  cases moved q c with
  | false => rfl
  | true =>
    simp only [Echo.measure_eq]
    cases inUse c <;> rfl

theorem State.applyWhere_eq (s : State) (n : ProfileNo) (which : Channel → Bool) :
    s.applyWhere n which =
      { s with
        channels :=
          s.channels.map fun c => if which c then applied n (s.profiles.get n).fields c else c } := by
  simp only [State.applyWhere, Channel.applyProfile_eq_applied]
  rfl

/-! ### What a push or a pop leaves (R149, R151) -/

/-- The newest entry is the last of the stack and the first of the reversed stack (R149). -/
theorem appliedOf_eq_topOr (stack : List ProfileNo) (scheduled : ProfileNo) :
    appliedOf stack scheduled = topOr stack scheduled := by
  cases stack using List.reverseRecOn with
  | nil => rfl
  | append_singleton older top => simp [appliedOf, topOr]

/-- A push or pop that leaves the applied profile as it was only writes the group; any other applies the new profile to
the group's channels and hands the record (R151). -/
theorem State.restack_eq_restacked (s : State) (g : GroupNo) (stack : List ProfileNo) :
    s.restack g stack = restacked g stack s := by
  unfold State.restack State.regroup switchEvent restacked
  simp only [appliedOf_eq_topOr]
  by_cases same : topOr stack (s.groups.get g).scheduled = (s.groups.get g).applied
  · simp only [if_pos same, if_pos same.symm]
    rfl
  · simp only [if_neg same, if_neg (Ne.symm same), State.applyWhere_eq, beq_iff_eq]
    rfl

end Sys2Proof.Machine

open Sys2Proof Sys2Proof.Machine Sys2Proof.Claims

/-- Settles O50: after the number checks the depth of the stack decides; the stack that a push or a pop leaves goes
through `State.restack_eq_restacked`. -/
theorem overridePushAndPop : Obligations.OverridePushAndPop := by
  refine ⟨fun tag g p s hs => ?_, fun tag g s hs => ?_⟩
  · refine congrArg _ ((takeCommand_free hs rfl rfl).trans
      (withNumber_withNumber_send fun hg hp => ?_))
    by_cases full : 4 ≤ (s.groups.get ⟨g.toNat, hg⟩).stack.length
    · simp only [if_pos full, State.refuse_send]
    · simp only [if_neg full, State.answer_send, State.restack_eq_restacked]
  · refine congrArg _ ((takeCommand_free hs rfl rfl).trans (withNumber_send fun hg => ?_))
    by_cases bare : (s.groups.get ⟨g.toNat, hg⟩).stack = []
    · simp only [bare, List.isEmpty_nil, if_true, State.refuse_send]
    · simp only [List.isEmpty_iff, if_neg bare, State.answer_send, State.restack_eq_restacked]
end

section
/-! PROOFS. TIME SET and the schedule's windows (chapter 8): a valid clock in the words of R166, the clock that a TIME SET
carries, and when an entry matches. -/

namespace Sys2Proof.Machine

open Sys2Proof.Claims

/-! ### The calendar -/

/-- The table of R161 and its rule agree on every month of the year. -/
theorem monthLength_eq_daysOf (year : Nat) {month : Nat} (h1 : 1 ≤ month) (h12 : month ≤ 12) :
    monthLength year month = daysOf year month := by
  interval_cases month <;> rfl

theorem TimeOfDay.valid_iff (t : TimeOfDay) :
    t.valid = true ↔ t.hour ≤ 23 ∧ t.minute ≤ 59 ∧ t.second ≤ 59 := by
  simp [TimeOfDay.valid, and_assoc]

/-- The checks of R166, with the length of the month by the rule of R161. -/
theorem Clock.valid_iff (c : Clock) :
    c.valid = true ↔
      c.year ≤ 99 ∧ 1 ≤ c.month ∧ c.month ≤ 12 ∧ 1 ≤ c.day ∧ c.day ≤ daysOf c.year c.month ∧
        c.time.hour ≤ 23 ∧ c.time.minute ≤ 59 ∧ c.time.second ≤ 59 ∧ c.weekday ≤ 6 := by
  simp only [Clock.valid, Bool.and_eq_true, decide_eq_true_eq, TimeOfDay.valid_iff, and_assoc]
  refine and_congr_right fun _ => and_congr_right fun h1 => and_congr_right fun h12 => ?_
  rw [monthLength_eq_daysOf c.year h1 h12]

/-! ### TIME SET -/

/-- The clock that the seven bytes of a TIME SET spell: SET, at the first frame of its second (R167). -/
def clockOf (y mo d h mi sec w : Byte) : Clock :=
  { year := y.toNat, month := mo.toNat, day := d.toNat
    time := { hour := h.toNat, minute := mi.toNat, second := sec.toNat }
    weekday := w.toNat, fis := 0, state := .set }

section timeSet

variable {y mo d h mi sec w : Byte}

theorem timeSet_of_valid (valid : (clockOf y mo d h mi sec w).valid = true) (s : State) :
    timeSet [y, mo, d, h, mi, sec, w] s = (s.loadClock (clockOf y mo d h mi sec w)).answer := by
  have parsed : parseTime y mo d h mi sec w = some (clockOf y mo d h mi sec w) := if_pos valid
  simp only [timeSet, parsed]

theorem timeSet_of_not_valid (invalid : ¬(clockOf y mo d h mi sec w).valid = true) (s : State) :
    timeSet [y, mo, d, h, mi, sec, w] s = s.refuse .badTime := by
  have parsed : parseTime y mo d h mi sec w = none := if_neg invalid
  simp only [timeSet, parsed]

end timeSet

/-! ### The window of an entry -/

theorem TimeOfDay.seconds_eq_secondOfDay (t : TimeOfDay) : t.seconds = secondOfDay t := by
  unfold TimeOfDay.seconds secondOfDay
  omega

/-- An entry matches when it is in use and the time lies in its window, within a day or across midnight (R174). -/
theorem Entry.matchesAt_iff (e : Entry) (t : TimeOfDay) (w : Nat) :
    e.matchesAt t w = true ↔ Matches e t w := by
  simp only [Entry.matchesAt, Matches, TimeOfDay.seconds_eq_secondOfDay, Bool.and_eq_true]
  refine and_congr_right fun _ => ?_
  by_cases within : secondOfDay e.start ≤ secondOfDay e.stop
  · have notAcross : ¬secondOfDay e.stop < secondOfDay e.start := by omega
    simp [within, notAcross, and_assoc]
  · have across : secondOfDay e.stop < secondOfDay e.start := by omega
    simp [within, across]

end Sys2Proof.Machine

open Sys2Proof Sys2Proof.Machine Sys2Proof.Claims

/-- Settles O51: the clock that the seven bytes spell is valid or not, and `Clock.valid_iff` is the list of checks. -/
theorem timeSetLoadsAValidTime : Obligations.TimeSetLoadsAValidTime := by
  intro tag y mo d h mi sec w s hs
  refine congrArg _ ((takeCommand_free hs rfl rfl).trans ?_)
  by_cases valid : (clockOf y mo d h mi sec w).valid = true
  · rw [timeSet_of_valid valid, State.answer_send]
    exact (if_pos ((Clock.valid_iff _).mp valid)).symm
  · rw [timeSet_of_not_valid valid, State.refuse_send]
    exact (if_neg (mt (Clock.valid_iff _).mpr valid)).symm

/-- Settles O26: the model's seconds are those of R171, and each kind of window is `Entry.matchesAt_iff`. -/
theorem entryMatchesInItsWindow : Obligations.EntryMatchesInItsWindow := Entry.matchesAt_iff
end

section
/-! PROOFS. The single-slot hand-over (chapter 9): what a write and a drop leave of the ring, and how a change of the ring
reaches the links. -/

namespace Sys2Proof.Machine

open Sys2Proof.Claims

/-- The slot that follows the write position in ring order, slot 63 being followed by slot 0 (R179). -/
@[simp] theorem Ring.slotFrom_one (r : Ring) : r.slotFrom 1 = r.writePos + 1 :=
  Fin.ext (Fin.val_add r.writePos 1).symm

/-- A link controller that is told of the ring changes in the report and the line alone (R194, R218). -/
theorem reportSlots_eq (r : Ring) (l : Link) (k : LinkCtl) :
    reportSlots r l k =
      { k with
        conds := { k.conds with owned := r.ownedCount l, oldest := r.oldest l }
        line := (reportSlots r l k).line } := rfl

/-- A change of the ring reaches the links as its report alone (R194). -/
theorem State.withRing_linksReported (s : State) (r : Ring) : LinksReported s (s.withRing r) := fun l =>
  ⟨r.ownedCount l, r.oldest l, (reportSlots r l (s.link l)).line,
    (s.link_withRing r l).trans (reportSlots_eq r l (s.link l))⟩

end Sys2Proof.Machine

open Sys2Proof Sys2Proof.Machine Sys2Proof.Claims

/-- Settles O22: the owner of the slot at the write position decides between `Ring.put_free`, whose write position is
`Ring.slotFrom_one`, and `Ring.put_blocked`; the links see `State.withRing_linksReported`. -/
theorem handOverWritesOrDrops : Obligations.HandOverWritesOrDrops := by
  intro s l ch p
  refine ⟨fun free => ?written, fun owned => ?dropped, s.withRing_linksReported _, rfl⟩
  case written =>
    rw [State.hand_ring, Ring.put_free free, Ring.advance, Ring.slotFrom_one]
    rfl
  case dropped =>
    rw [State.hand_ring, Ring.put_blocked owned]
    rfl
end

section
/-! PROOFS. What an effect can do to one channel, said once, and the laws of a channel's signal that every such move keeps
(chapters 1 to 5): the window's measures, samples, coefficients, runs, statistics and levels. -/

namespace Sys2Proof.Machine

/-! ### The moves of a channel -/

/-- The changes of one channel of which every effect is made; an apply brings fields that satisfy `V`. -/
inductive ChannelMove (V : ParamSet → Prop) : Channel → Channel → Prop
  | powerOn (c : Channel) : ChannelMove V c Channel.powerOn
  | restart (c : Channel) : ChannelMove V c c.restart
  | start (c : Channel) (k : Custody) : ChannelMove V c { c.startClear with custody := k }
  | recustody (c : Channel) (k : Custody)
      (ha : ({ c with custody := k } : Channel).active = true → c.active = true) :
    ChannelMove V c { c with custody := k }
  | clearSignal (c : Channel) : ChannelMove V c c.clearSignal
  | captureMark (c : Channel) : ChannelMove V c { c with capturePending := true }
  | setFlag (c : Channel) (f : FlagName) (v : Bool) : ChannelMove V c (c.setFlag f v)
  | join (c : Channel) (g : GroupNo) : ChannelMove V c { c with group := g }
  | apply (c : Channel) (n : ProfileNo) (q : ParamSet) (hq : V q) :
    ChannelMove V c (Channel.applyProfile n q c)
  | countSecond (c : Channel) : ChannelMove V c c.countSecond
  | beginFrame (c : Channel) : ChannelMove V c c.beginFrame
  | silence (c : Channel) : ChannelMove V c c.silence
  | loseFrame (c : Channel) : ChannelMove V c c.loseFrame
  | restore (c : Channel) : ChannelMove V c c.restore
  | frame (c : Channel) (held blockEndFrame : Bool) (t x : BitVec 16) :
    ChannelMove V c (Channel.frame held blockEndFrame t.toInt x.toInt c)
  | closeBlock (c : Channel) (held : Bool) : ChannelMove V c (Channel.closeBlock held c)

section everyChannel

variable {P : Channel → Prop} {s : State}

theorem State.EveryChannel.setChan (h : s.EveryChannel P) {ch : ChannelNo} {c : Channel} (hc : P c) :
    (s.setChan ch c).EveryChannel P := fun k => by
  rw [State.chan_setChan]
  split
  · exact hc
  · exact h k

theorem State.EveryChannel.mapChans (h : s.EveryChannel P) {f : Channel → Channel}
    (hf : ∀ c, P c → P (f c)) : (s.mapChans f).EveryChannel P := fun k => by
  rw [State.chan_mapChans]
  exact hf _ (h k)

theorem State.EveryChannel.applyWhere (h : s.EveryChannel P) {n : ProfileNo}
    (hf : ∀ c, P c → P (Channel.applyProfile n (s.fieldsOf n) c)) (which : Channel → Bool) :
    (s.applyWhere n which).EveryChannel P :=
  h.mapChans fun c hc => by
    split
    · exact hf c hc
    · exact hc

theorem State.everyChannel_reset (hP : P Channel.powerOn) : State.reset.EveryChannel P := fun ch =>
  have : State.reset.chan ch = Channel.powerOn := Table.get_replicate _ _
  this ▸ hP

end everyChannel

/-- Every profile's fields satisfy `V`. -/
def State.EveryFields (V : ParamSet → Prop) (s : State) : Prop := ∀ p : ProfileNo, V (s.fieldsOf p)

theorem State.everyFields_reset {V : ParamSet → Prop} (h : V profileZero) : State.reset.EveryFields V :=
  fun p => by
    have : State.reset.fieldsOf p = profileZero :=
      congrArg Profile.fields (Table.get_replicate Profile.powerOn p)
    rwa [this]

theorem State.EveryFields.setProfile {V : ParamSet → Prop} {s : State} (h : s.EveryFields V) {p : ProfileNo}
    {v : Profile} (hv : V v.fields) : (s.setProfile p v).EveryFields V := fun k => by
  unfold State.fieldsOf State.setProfile
  rw [Table.get_set]
  split
  · exact hv
  · exact h k

/-- A predicate that every move of a channel keeps is kept on every channel, as long as the profiles satisfy `V`. -/
theorem Effect.keepsChannels {V : ParamSet → Prop} (hV : ∀ q : ParamSet, q.valid = true → V q)
    {P : Channel → Prop} (hP : ∀ c d, ChannelMove V c d → P c → P d) {s t : State} (h : Effect s t) :
    s.EveryFields V ∧ s.EveryChannel P → t.EveryFields V ∧ t.EveryChannel P := by
  have one {s : State} {ch : ChannelNo} {d : Channel} (hm : ChannelMove V (s.chan ch) d)
      (hs : s.EveryChannel P) : (s.setChan ch d).EveryChannel P := hs.setChan (hP _ _ hm (hs ch))
  have all {s : State} {f : Channel → Channel} (hm : ∀ c, ChannelMove V c (f c))
      (hs : s.EveryChannel P) : (s.mapChans f).EveryChannel P := hs.mapChans fun c => hP _ _ (hm c)
  induction h with
  | refl => exact id
  | trans _ _ ih1 ih2 => exact fun hs => ih2 (ih1 hs)
  | assertReset s =>
    exact fun ⟨_, hc⟩ => ⟨State.everyFields_reset (hV _ (by decide)),
      State.everyChannel_reset (hP _ _ (.powerOn _) (hc 0))⟩
  | releaseReset s =>
    exact fun ⟨_, hc⟩ => ⟨State.everyFields_reset (hV _ (by decide)),
      State.everyChannel_reset (hP _ _ (.powerOn _) (hc 0))⟩
  | restart => exact fun ⟨hf, hc⟩ => ⟨hf, all .restart hc⟩
  | start => exact fun ⟨hf, hc⟩ => ⟨hf, one (.start _ _) hc⟩
  | recustody _ _ _ _ ha => exact fun ⟨hf, hc⟩ => ⟨hf, one (.recustody _ _ ha) hc⟩
  | clearSignal => exact fun ⟨hf, hc⟩ => ⟨hf, one (.clearSignal _) hc⟩
  | captureMark => exact fun ⟨hf, hc⟩ => ⟨hf, one (.captureMark _) hc⟩
  | flag => exact fun ⟨hf, hc⟩ => ⟨hf, one (.setFlag _ _ _) hc⟩
  | field s first n f v =>
    refine fun ⟨hf, hc⟩ => ⟨hf, fun ch => ?_⟩
    unfold State.putField State.chan
    rw [Table.get_mapIdx]
    split
    · exact hP _ _ (.setFlag _ _ _) (hc ch)
    · exact hc ch
  | assign => exact fun ⟨hf, hc⟩ => ⟨hf, one (.apply _ _ _ (hf _)) (one (.join _ _) hc)⟩
  | hold => exact fun ⟨hf, hc⟩ => ⟨hf.setProfile (hf _), hc⟩
  | writeFields _ _ v _ hv => exact fun ⟨hf, hc⟩ => ⟨hf.setProfile (hV v hv), hc⟩
  | resume s p =>
    rintro ⟨hf, hc⟩
    have hf' : (s.setProfile p { fields := s.fieldsOf p, held := false }).EveryFields V :=
      hf.setProfile (hf p)
    exact ⟨hf', State.EveryChannel.applyWhere (s := s.setProfile p _) hc
      (fun c => hP _ _ (.apply c p _ (hf' p))) _⟩
  | regroup s g stack scheduled =>
    refine fun ⟨hf, hc⟩ => ⟨by simpa [State.EveryFields, State.fieldsOf] using hf, fun ch => ?_⟩
    rw [State.regroup_chan]
    split
    · exact hP _ _ (.apply _ _ _ (hf _)) (hc ch)
    · exact hc ch
  | tick => exact fun ⟨hf, hc⟩ => ⟨hf, all .countSecond hc⟩
  | frameBegins s n =>
    refine fun ⟨hf, hc⟩ => ⟨by simpa [State.EveryFields, State.fieldsOf] using hf, ?_⟩
    unfold State.advanceFrame State.nextFrame State.beginFrame
    exact fun ch => (State.chan_congr (State.countFrame_channels _) ch).symm ▸ all .beginFrame hc ch
  | opens s p =>
    refine fun ⟨hf, hc⟩ => ⟨by simpa [State.EveryFields, State.fieldsOf] using hf, ?_⟩
    unfold State.enterLocked State.beginFrame
    exact fun ch => (State.chan_congr (State.countFrame_channels _) ch).symm ▸
      all .beginFrame (all .silence hc) ch
  | restored => exact fun ⟨hf, hc⟩ => ⟨hf, all .restore hc⟩
  | silenced => exact fun ⟨hf, hc⟩ => ⟨hf, all .loseFrame hc⟩
  | sample => exact fun ⟨hf, hc⟩ => ⟨hf, one (.frame _ _ _ _ _) hc⟩
  | closed _ _ _ hch =>
    subst hch
    exact fun ⟨hf, hc⟩ => ⟨hf, one (.closeBlock _ _) hc⟩
  | _ => exact id

/-- A law of channels that every move keeps, whatever an apply brings, is kept by every step. -/
theorem step_keepsChannels {P : Channel → Prop}
    (hP : ∀ c d, ChannelMove (fun _ => True) c d → P c → P d) {s t : State} (hs : s.EveryChannel P)
    (h : step s = .next t) : t.EveryChannel P :=
  step_keeps (fun _ _ hs => hs)
    (fun _ _ e hs => (e.keepsChannels (fun _ _ => trivial) hP ⟨fun _ => trivial, hs⟩).2) hs h

end Sys2Proof.Machine
end

section
/-! PROOFS. The canceller engine through every move of a channel (chapters 1 and 2): P and Xpk of the window, samples and
taps in range, taps past W and of an UNTRAINED channel. -/

namespace Sys2Proof.Machine

/-! ### The window's measures (R19, R20) -/

theorem sumSquares_eq_zero {xs : List Int} (h : ∀ x ∈ xs, x = 0) : sumSquares xs = 0 := by
  induction xs with
  | nil => rfl
  | cons x xs ih =>
    obtain ⟨hx, hxs⟩ := List.forall_mem_cons.mp h
    have rest : xs.foldr (fun x a => x.natAbs * x.natAbs + a) 0 = 0 := ih hxs
    simp [sumSquares, hx, rest]

theorem largestMagnitude_eq_zero {xs : List Int} (h : ∀ x ∈ xs, x = 0) : largestMagnitude xs = 0 := by
  induction xs with
  | nil => rfl
  | cons x xs ih =>
    obtain ⟨hx, hxs⟩ := List.forall_mem_cons.mp h
    have rest : xs.foldr (fun x a => max x.natAbs a) 0 = 0 := ih hxs
    simp [largestMagnitude, hx, rest]

theorem Echo.windowSamples_mem {p : ParamSet} {e : Echo} {x : Int} (h : x ∈ e.windowSamples p) :
    x ∈ e.history.data :=
  List.mem_of_mem_drop (List.mem_of_mem_take h)

/-- Over a history of zeros P and Xpk are 0. -/
theorem Channel.measured_of_zeros {c : Channel} (hh : ∀ x ∈ c.echo.history.data, x = 0)
    (he : c.echo.energy = 0) (hp : c.echo.peak = 0) : c.Measured := by
  have zeros : ∀ x ∈ c.echo.windowSamples c.params, x = 0 := fun x hx =>
    hh x (Echo.windowSamples_mem hx)
  exact ⟨he.trans (sumSquares_eq_zero zeros).symm, hp.trans (largestMagnitude_eq_zero zeros).symm⟩

theorem Channel.powerOn_measured : Channel.powerOn.Measured :=
  Channel.measured_of_zeros (fun _ => List.eq_of_mem_replicate) rfl rfl

/-- The window of two parameter sets with one D and one W is the same. -/
theorem Echo.windowSamples_congr {p q : ParamSet} (h : windowMoves p q = false) (e : Echo) :
    e.windowSamples p = e.windowSamples q := by
  simp only [windowMoves, Bool.or_eq_false_iff, bne_eq_false_iff_eq] at h
  unfold Echo.windowSamples
  rw [h.1, h.2]

/-- What a block end does to the engine: the coefficient clear, or nothing. -/
theorem Channel.closeBlock_echo (held : Bool) (c : Channel) :
    (Channel.closeBlock held c).echo = if c.recovers then c.echo.clearTaps else c.echo := by
  unfold Channel.closeBlock Channel.recovers
  cases c.active
  · rfl
  · cases h : c.near.recovers c.near.classify <;> simp [Channel.closeActive, h]

theorem ChannelMove.keepsMeasured {V : ParamSet → Prop} {c d : Channel} (h : ChannelMove V c d)
    (hc : c.Measured) : d.Measured := by
  have zeros : ∀ x ∈ (Table.replicate 1472 (0 : Int)).data, x = 0 := fun x => List.eq_of_mem_replicate
  cases h with
  | powerOn => exact Channel.powerOn_measured
  | restore => exact Channel.measured_of_zeros zeros rfl rfl
  | setFlag f => cases f <;> exact hc
  | apply n q =>
    unfold Channel.Measured Channel.applyProfile
    cases hm : windowMoves c.params q with
    | true => exact ⟨rfl, rfl⟩
    | false =>
      dsimp only [Bool.false_and, Bool.false_eq_true, if_false]
      rw [← Echo.windowSamples_congr hm]
      exact hc
  | countSecond =>
    unfold Channel.countSecond
    split <;> exact hc
  | frame held b t x =>
    unfold Channel.frame Channel.activeFrame Channel.stageAdapted
    cases c.active
    · exact ⟨rfl, rfl⟩
    · cases c.stageAllowed held t.toInt x.toInt <;> exact ⟨rfl, rfl⟩
  | closeBlock held =>
    have hp : (Channel.closeBlock held c).params = c.params := by
      unfold Channel.closeBlock
      cases c.active <;> rfl
    unfold Channel.Measured
    rw [Channel.closeBlock_echo, hp]
    split <;> exact hc
  | _ => exact hc

/-! ### Samples (R1, R16) -/

theorem inSampleRange_zero : inSampleRange 0 := by
  unfold inSampleRange
  omega

theorem inSampleRange_toInt (t : BitVec 16) : inSampleRange t.toInt := by
  have h1 := BitVec.le_toInt t
  have h2 := BitVec.toInt_lt (x := t)
  unfold inSampleRange
  omega

theorem inSampleRange_gainOut (i v : Int) : inSampleRange (gainOut i v) := by
  unfold inSampleRange gainOut saturate clampTo
  omega

/-- A history of zeros lies in the sample range. -/
theorem inSampleRange_of_mem_zeros {n : Nat} : ∀ x ∈ (Table.replicate n (0 : Int)).data, inSampleRange x :=
  fun _ hx => List.eq_of_mem_replicate hx ▸ inSampleRange_zero

theorem Channel.powerOn_samplesInRange : Channel.powerOn.SamplesInRange :=
  ⟨inSampleRange_of_mem_zeros, inSampleRange_zero, inSampleRange_zero, inSampleRange_zero,
    inSampleRange_zero⟩

/-- The history after a sample holds that sample and older ones. -/
theorem mem_pushHistory {x y : Int} {h : Table Int 1472} (hy : y ∈ (pushHistory x h).data) :
    y = x ∨ y ∈ h.data :=
  List.mem_cons.mp (List.mem_of_mem_take hy)

/-- Adaptation, allowed or not, leaves the history as it is. -/
@[simp] theorem Channel.stageAdapted_history (c : Channel) (held : Bool) (t s : Int) :
    (c.stageAdapted held t s).history = pushHistory (c.stageX t) c.echo.history := by
  unfold Channel.stageAdapted
  split <;> rfl

theorem ChannelMove.keepsSamplesInRange {V : ParamSet → Prop} {c d : Channel} (h : ChannelMove V c d)
    (hc : c.SamplesInRange) : d.SamplesInRange := by
  have pushed {x : Int} (hx : inSampleRange x) :
      ∀ y ∈ (pushHistory x c.echo.history).data, inSampleRange y := fun y hy => by
    obtain rfl | hy := mem_pushHistory hy
    · exact hx
    · exact hc.1 y hy
  have zero := inSampleRange_zero
  obtain ⟨hist, hx, hz, hx', hz'⟩ := hc
  cases h with
  | powerOn => exact Channel.powerOn_samplesInRange
  | restore => exact ⟨inSampleRange_of_mem_zeros, hx, hz, hx', hz'⟩
  | setFlag f => cases f <;> exact ⟨hist, hx, hz, hx', hz'⟩
  | apply n q =>
    refine ⟨?_, hx, hz, hx', hz'⟩
    unfold Channel.applyProfile
    cases windowMoves c.params q <;> cases c.active <;> exact hist
  | countSecond =>
    unfold Channel.countSecond
    split <;> exact ⟨hist, hx, hz, hx', hz'⟩
  | beginFrame => exact ⟨hist, hx', hz', zero, zero⟩
  | silence => exact ⟨hist, zero, zero, zero, zero⟩
  | loseFrame => exact ⟨hist, zero, zero, zero, zero⟩
  | frame held b t x =>
    unfold Channel.frame
    cases c.active with
    | false =>
      exact ⟨pushed (inSampleRange_toInt t), hx, hz, inSampleRange_toInt t, inSampleRange_toInt x⟩
    | true =>
      refine ⟨?_, hx, hz, inSampleRange_gainOut _ _, inSampleRange_gainOut _ _⟩
      show ∀ y ∈ (c.stageAdapted held t.toInt x.toInt).history.data, inSampleRange y
      rw [Channel.stageAdapted_history]
      exact pushed (inSampleRange_gainOut _ _)
  | closeBlock held =>
    unfold Channel.SamplesInRange
    rw [Channel.closeBlock_echo]
    unfold Channel.closeBlock
    cases c.active <;> cases c.recovers <;> exact ⟨hist, hx, hz, hx', hz'⟩
  | _ => exact ⟨hist, hx, hz, hx', hz'⟩

/-! ### Coefficients (R21, R22, R52) -/

/-- R21, R22 and R52 on one channel. -/
def Channel.CoefficientsSound (c : Channel) : Prop := c.TapsInRange ∧ c.TailZero ∧ c.UntrainedZero

/-- The taps after the coefficient clear. -/
theorem Echo.mem_clearTaps {e : Echo} {h : Int} (hh : h ∈ e.clearTaps.taps.data) : h = 0 :=
  List.eq_of_mem_replicate hh

theorem Channel.coefficientsSound_of_zero {c : Channel} (h : ∀ x ∈ c.echo.taps.data, x = 0) :
    c.CoefficientsSound :=
  ⟨fun x hx => by have := h x hx; omega, fun _ x hx => h x (List.mem_of_mem_drop hx), fun _ => h⟩

theorem Channel.powerOn_coefficientsSound : Channel.powerOn.CoefficientsSound :=
  Channel.coefficientsSound_of_zero fun _ => Echo.mem_clearTaps (e := Echo.powerOn)

/-- An adapted tap is clamped into its range, and any other is an old one (R38). -/
theorem adaptTaps_inRange {a : Int} {hs xs : List Int} (h : ∀ x ∈ hs, -4194304 ≤ x ∧ x ≤ 4194303) :
    ∀ x ∈ adaptTaps a hs xs, -4194304 ≤ x ∧ x ≤ 4194303 := by
  induction hs generalizing xs with
  | nil => simp [adaptTaps]
  | cons y ys ih =>
    obtain ⟨hy, hys⟩ := List.forall_mem_cons.mp h
    cases xs with
    | nil => simpa [adaptTaps] using h
    | cons z zs =>
      rw [adaptTaps, List.forall_mem_cons]
      refine ⟨?_, ih hys⟩
      unfold adaptTap clampTo
      omega

/-- Adaptation leaves the taps past the window's samples alone (R22). -/
theorem drop_adaptTaps {a : Int} {hs xs : List Int} {w : Nat} (h : xs.length ≤ w) :
    (adaptTaps a hs xs).drop w = hs.drop w := by
  induction hs generalizing xs w with
  | nil => simp [adaptTaps]
  | cons y ys ih =>
    cases xs with
    | nil => simp [adaptTaps]
    | cons z zs =>
      obtain ⟨v, rfl⟩ : ∃ v, w = v + 1 := ⟨w - 1, by simp only [List.length_cons] at h; omega⟩
      simpa [adaptTaps] using ih (by simpa using h)

theorem Channel.CoefficientsSound.frame {c : Channel} (hc : c.CoefficientsSound) (held : Bool) (t s : Int) :
    (c.activeFrame held t s).CoefficientsSound := by
  obtain ⟨range, tail, untrained⟩ := hc
  show (∀ h ∈ (c.stageAdapted held t s).taps.data, _) ∧
    (c.active = true → ∀ h ∈ (c.stageAdapted held t s).taps.data.drop c.params.window, h = 0) ∧
    (c.stageConv held t s = .untrained → ∀ h ∈ (c.stageAdapted held t s).taps.data, h = 0)
  unfold Channel.stageAdapted Channel.stageConv
  cases c.stageAllowed held t s with
  | false =>
    refine ⟨range, tail, fun hv => untrained ?_⟩
    cases hk : c.near.conv <;> simp_all [convAfterDecision]
  | true =>
    refine ⟨adaptTaps_inRange range, fun ha => ?_, fun hv => ?_⟩
    · have short : ((c.stageEcho t).windowSamples c.params).length ≤ c.params.window :=
        List.length_take_le _ _
      intro h hh
      exact tail ha h (drop_adaptTaps short ▸ hh)
    · cases hk : c.near.conv <;> simp [convAfterDecision, hk] at hv

/-- A bad block of a CONVERGED channel brings CONVERGING at most (R60). -/
theorem Near.badBlock_trained {n : Near} (h : n.conv ≠ .untrained) : n.badBlock.conv ≠ .untrained := by
  unfold Near.badBlock
  split
  · simp
  · exact h

/-- No block without a recovery leads into UNTRAINED (R59, R60). -/
theorem Near.moveRuns_trained {n : Near} (h : n.conv ≠ .untrained) (k : BlockClass) :
    (n.moveRuns k).conv ≠ .untrained := by
  have bad := Near.badBlock_trained h
  unfold Near.moveRuns
  split
  case h_3 => split <;> simp_all
  all_goals simp_all

/-- A block end leaves UNTRAINED alone, and enters it only by a divergence recovery (R61). -/
theorem Near.closeBlock_untrained {n : Near} (h : n.closeBlock.conv = .untrained) :
    n.conv = .untrained ∨ n.recovers n.classify = true := by
  by_contra hn
  obtain ⟨trained, kept⟩ := not_or.mp hn
  have e : n.closeBlock = (n.moveRuns n.classify).emptyBlock := by simp only [Near.closeBlock, if_neg kept]
  rw [e] at h
  exact Near.moveRuns_trained trained _ h

theorem Channel.CoefficientsSound.closeBlock {c : Channel} (hc : c.CoefficientsSound) (held : Bool) :
    (Channel.closeBlock held c).CoefficientsSound := by
  by_cases hr : c.recovers = true
  · refine Channel.coefficientsSound_of_zero ?_
    rw [Channel.closeBlock_echo, if_pos hr]
    exact fun x => Echo.mem_clearTaps
  obtain ⟨range, tail, untrained⟩ := hc
  have echo : (Channel.closeBlock held c).echo = c.echo := by rw [Channel.closeBlock_echo, if_neg hr]
  have active : (Channel.closeBlock held c).active = c.active := by
    unfold Channel.closeBlock
    cases h : c.active <;> exact h
  have params : (Channel.closeBlock held c).params = c.params := by
    unfold Channel.closeBlock
    cases c.active <;> rfl
  refine ⟨?_, ?_, ?_⟩
  · unfold Channel.TapsInRange
    rwa [echo]
  · unfold Channel.TailZero
    rwa [echo, active, params]
  · unfold Channel.UntrainedZero
    rw [echo]
    intro hv
    refine untrained ?_
    unfold Channel.closeBlock at hv
    cases ha : c.active with
    | false =>
      rw [ha] at hv
      exact hv
    | true =>
      rw [ha] at hv
      refine (Near.closeBlock_untrained hv).resolve_right fun h => hr ?_
      simp [Channel.recovers, ha, h]

theorem ChannelMove.keepsCoefficientsSound {V : ParamSet → Prop} {c d : Channel} (h : ChannelMove V c d)
    (hc : c.CoefficientsSound) : d.CoefficientsSound := by
  have cleared : ∀ x ∈ c.echo.clearTaps.taps.data, x = 0 := fun x => Echo.mem_clearTaps
  cases h with
  | powerOn => exact Channel.powerOn_coefficientsSound
  | restart => exact Channel.coefficientsSound_of_zero cleared
  | start => exact Channel.coefficientsSound_of_zero cleared
  | clearSignal => exact Channel.coefficientsSound_of_zero cleared
  | recustody k ha => exact ⟨hc.1, fun h => hc.2.1 (ha h), hc.2.2⟩
  | setFlag f => cases f <;> exact hc
  | apply n q =>
    unfold Channel.applyProfile
    cases hm : windowMoves c.params q with
    | false =>
      have hw : c.params.window = q.window := by
        simp only [windowMoves, Bool.or_eq_false_iff, bne_eq_false_iff_eq] at hm
        exact hm.2
      exact ⟨hc.1, by simpa [Channel.TailZero, Channel.active, hw] using hc.2.1, hc.2.2⟩
    | true =>
      cases ha : c.active with
      | true => exact Channel.coefficientsSound_of_zero cleared
      | false => exact ⟨hc.1, fun h => absurd (ha.symm.trans h) (by decide), hc.2.2⟩
  | countSecond =>
    unfold Channel.countSecond
    split <;> exact hc
  | frame held b t x =>
    unfold Channel.frame
    cases c.active
    · exact hc
    · exact hc.frame held t.toInt x.toInt
  | closeBlock held => exact hc.closeBlock held
  | _ => exact hc

end Sys2Proof.Machine

open Sys2Proof Sys2Proof.Machine Sys2Proof.Claims

/-- Settles O54: each move of a channel takes P and Xpk anew over the window, or leaves the window's samples alone. -/
theorem stepKeepsWindowMeasures : Obligations.StepKeepsWindowMeasures := fun _ _ hs h =>
  step_keepsChannels (fun _ _ m => m.keepsMeasured) hs h

/-- Settles O55: samples and coefficients apart, each through every move of a channel. -/
theorem stepKeepsSamplesAndCoefficients : Obligations.StepKeepsSamplesAndCoefficients :=
  fun _ _ ⟨samples, coefficients⟩ h =>
    ⟨step_keepsChannels (fun _ _ m => m.keepsSamplesInRange) samples h,
      step_keepsChannels (P := Channel.CoefficientsSound) (fun _ _ m => m.keepsCoefficientsSound)
        coefficients h⟩
end

section
/-! PROOFS. Runs, statistics and levels through every move of a channel (chapters 3 to 6): each count below its limit, each
gain index within the bounds of its set. -/

namespace Sys2Proof.Machine

/-! ### Counters -/

theorem satInc_le {n v : Nat} (h : v ≤ n) : satInc n v ≤ n := by
  unfold satInc
  split <;> omega

theorem countIf_le {n v : Nat} (h : v ≤ n) (b : Bool) : countIf n b v ≤ n := by
  cases b
  · exact h
  · exact satInc_le h

/-! ### Runs and statistics (R99, R131) -/

/-- The near-speech unit's runs below their thresholds, and blanking at most its start (R50, R59 to R61). -/
def Near.RunsBounded (n : Near) : Prop :=
  n.goodRun ≤ 7 ∧ n.badRun ≤ 3 ∧ n.divRun ≤ 2 ∧ n.blanking ≤ 40

/-- The tone detector's runs (R75, R77). -/
def Tone.RunsBounded (k : Tone) : Prop := k.trunk.run ≤ 80 ∧ k.exchange.run ≤ 80 ∧ k.quietRun ≤ 49

theorem Channel.runsBounded_iff (c : Channel) :
    c.RunsBounded ↔ c.near.RunsBounded ∧ c.tone.RunsBounded ∧ c.rLevel.raiseRun ≤ 19 ∧
      c.tLevel.raiseRun ≤ 19 := by
  simp only [Channel.RunsBounded, Near.RunsBounded, Tone.RunsBounded, and_assoc]

theorem Near.RunsBounded.badBlock {n : Near} (h : n.RunsBounded) : n.badBlock.RunsBounded := by
  obtain ⟨good, bad, div, blank⟩ := h
  unfold Near.badBlock
  split
  · exact ⟨Nat.zero_le _, Nat.zero_le _, div, blank⟩
  · exact ⟨good, by dsimp only; omega, div, blank⟩

/-- A diverging block that brings no recovery leaves the diverging run below 3 (R61). -/
theorem Near.divRun_lt {n : Near} (hu : n.conv ≠ .untrained) (hr : n.recovers .diverging = false) :
    n.divRun + 1 ≤ 2 := by
  simp [Near.recovers, hu] at hr
  omega

theorem Near.RunsBounded.moveRuns {n : Near} (h : n.RunsBounded) {k : BlockClass}
    (hr : n.recovers k = false) : (n.moveRuns k).RunsBounded := by
  have ⟨good', bad', div', blank'⟩ := h.badBlock
  have ⟨good, bad, div, blank⟩ := h
  unfold Near.moveRuns
  split
  case h_1 | h_2 => exact h
  case h_3 =>
    split
    · exact ⟨Nat.zero_le _, Nat.zero_le _, Nat.zero_le _, blank⟩
    · exact ⟨by dsimp only; omega, bad, Nat.zero_le _, blank⟩
  case h_4 => exact ⟨Nat.zero_le _, bad, Nat.zero_le _, blank⟩
  case h_5 hk => exact ⟨Nat.zero_le _, bad, Near.divRun_lt (by simp [hk]) hr, blank⟩
  case h_6 => exact ⟨good, Nat.zero_le _, Nat.zero_le _, blank⟩
  case h_7 => exact ⟨good', bad', Nat.zero_le _, blank'⟩
  case h_8 hk => exact ⟨good', bad', Near.divRun_lt (by simp [hk]) hr, blank'⟩

theorem Near.RunsBounded.closeBlock {n : Near} (h : n.RunsBounded) : n.closeBlock.RunsBounded := by
  show (if n.recovers n.classify then n.clearConvergence else n.moveRuns n.classify).RunsBounded
  split
  · exact ⟨Nat.zero_le _, Nat.zero_le _, Nat.zero_le _, h.2.2.2⟩
  · exact h.moveRuns (eq_false_of_ne_true ‹_›)

theorem ToneDir.moveRun_le {d : ToneDir} (h : d.run ≤ 80) (observed : Nat) :
    (d.moveRun observed).run ≤ 80 := by
  unfold ToneDir.moveRun
  dsimp only
  split
  · exact satInc_le h
  · exact Nat.zero_le _

theorem Tone.RunsBounded.judge {k : Tone} (h : k.RunsBounded) (enable : Bool) :
    (k.judge enable).1.RunsBounded := by
  obtain ⟨trunk, exchange, quiet⟩ := h
  have trunk' := ToneDir.moveRun_le trunk k.observed
  have exchange' := ToneDir.moveRun_le exchange k.observed
  unfold Tone.judge
  dsimp only
  split
  · split
    · split
      · exact ⟨Nat.zero_le _, Nat.zero_le _, Nat.zero_le _⟩
      · exact ⟨trunk, exchange, by dsimp only; omega⟩
    · exact ⟨trunk, exchange, Nat.zero_le _⟩
  · split
    · exact ⟨trunk', exchange', Nat.zero_le _⟩
    · exact ⟨trunk', exchange', quiet⟩

theorem Level.raiseRun_closeBlock_le {k : Level} (h : k.raiseRun ≤ 19) (f : LevelFields) (may : Bool) :
    (k.closeBlock f may).raiseRun ≤ 19 := by
  cases may with
  | false => exact h
  | true =>
    show (k.control f).raiseRun ≤ 19
    unfold Level.control
    repeat' split
    all_goals (try dsimp only); omega

theorem Level.raiseRun_apply_le {k : Level} (h : k.raiseRun ≤ 19) (f : LevelFields) :
    (k.apply f).raiseRun ≤ 19 := by
  unfold Level.apply
  dsimp only
  split <;> omega

/-- The statistics after a sample or a block end stay within their limits (R131). -/
theorem Stats.Bounded.stageStats {c : Channel} (h : c.stats.Bounded) (held : Bool) (t s : Int) :
    (c.stageStats held t s).Bounded := by
  obtain ⟨duration, good, near, saturations, clipsR, clipsT, tone, diverged⟩ := h
  exact ⟨duration, good, near, countIf_le saturations _, countIf_le clipsR _, countIf_le clipsT _,
    tone, diverged⟩

theorem Stats.Bounded.closedStats {c : Channel} (h : c.stats.Bounded) : c.closedStats.Bounded := by
  obtain ⟨duration, good, near, saturations, clipsR, clipsT, tone, diverged⟩ := h
  exact ⟨duration, countIf_le good _, countIf_le near _, saturations, clipsR, clipsT, countIf_le tone _,
    countIf_le diverged _⟩

/-- Runs and statistics of one channel below their limits. -/
def Channel.CountsSound (c : Channel) : Prop := c.RunsBounded ∧ c.stats.Bounded

theorem Tone.powerOn_runsBounded : Tone.powerOn.RunsBounded := by
  simp [Tone.RunsBounded, Tone.powerOn, ToneDir.powerOn]

theorem Stats.zero_bounded : Stats.zero.Bounded := by
  simp [Stats.Bounded, Stats.zero]

theorem Channel.powerOn_countsSound : Channel.powerOn.CountsSound :=
  ⟨(Channel.runsBounded_iff _).mpr
    ⟨⟨Nat.zero_le _, Nat.zero_le _, Nat.zero_le _, Nat.zero_le _⟩, Tone.powerOn_runsBounded, Nat.zero_le _,
      Nat.zero_le _⟩, Stats.zero_bounded⟩

theorem ChannelMove.keepsCountsSound {V : ParamSet → Prop} {c d : Channel} (h : ChannelMove V c d)
    (hc : c.CountsSound) : d.CountsSound := by
  unfold Channel.CountsSound at *
  rw [Channel.runsBounded_iff] at *
  obtain ⟨⟨near, tone, raiseR, raiseT⟩, stats⟩ := hc
  have noStats := Stats.zero_bounded
  have noTone := Tone.powerOn_runsBounded
  have ⟨good, bad, div, blank⟩ := near
  have noRuns : c.near.startClear.RunsBounded := ⟨Nat.zero_le _, Nat.zero_le _, Nat.zero_le _, blank⟩
  cases h with
  | powerOn =>
    obtain ⟨runs, counts⟩ := Channel.powerOn_countsSound
    exact ⟨(Channel.runsBounded_iff _).mp runs, counts⟩
  | restart =>
    exact ⟨⟨⟨Nat.zero_le _, Nat.zero_le _, Nat.zero_le _, Nat.zero_le _⟩, noTone, Nat.zero_le _,
      Nat.zero_le _⟩, noStats⟩
  | start => exact ⟨⟨noRuns, noTone, Nat.zero_le _, Nat.zero_le _⟩, noStats⟩
  | clearSignal => exact ⟨⟨noRuns, noTone, Nat.zero_le _, Nat.zero_le _⟩, stats⟩
  | setFlag f => cases f <;> exact ⟨⟨near, tone, raiseR, raiseT⟩, stats⟩
  | apply n q =>
    refine ⟨⟨?_, tone, Level.raiseRun_apply_le raiseR _, Level.raiseRun_apply_le raiseT _⟩, stats⟩
    unfold Channel.applyProfile
    dsimp only
    split
    · exact ⟨Nat.zero_le _, Nat.zero_le _, Nat.zero_le _, blank⟩
    · exact near
  | countSecond =>
    unfold Channel.countSecond
    split
    · exact ⟨⟨near, tone, raiseR, raiseT⟩, satInc_le stats.1, stats.2⟩
    · exact ⟨⟨near, tone, raiseR, raiseT⟩, stats⟩
  | restore => exact ⟨⟨⟨good, bad, div, le_refl 40⟩, tone, raiseR, raiseT⟩, stats⟩
  | frame held b t x =>
    have blank' : c.near.blanking - 1 ≤ 40 := by omega
    unfold Channel.frame
    cases c.active with
    | false => exact ⟨⟨⟨good, bad, div, blank'⟩, tone, raiseR, raiseT⟩, stats⟩
    | true => exact ⟨⟨⟨good, bad, div, blank'⟩, tone, raiseR, raiseT⟩, stats.stageStats _ _ _⟩
  | closeBlock held =>
    unfold Channel.closeBlock
    cases c.active with
    | false => exact ⟨⟨near, tone, raiseR, raiseT⟩, stats⟩
    | true =>
      exact ⟨⟨near.closeBlock, tone.judge _, Level.raiseRun_closeBlock_le raiseR _ _,
        Level.raiseRun_closeBlock_le raiseT _ _⟩, stats.closedStats⟩
  | _ => exact ⟨⟨near, tone, raiseR, raiseT⟩, stats⟩

/-! ### Levels (R90, R136) -/

/-- The gain index of a path lies within the bounds of its fields (R90). -/
def Level.Within (f : LevelFields) (k : Level) : Prop := f.gMin ≤ k.gain ∧ k.gain ≤ f.gMax

/-- A channel's own parameter set is valid, and its gain indices lie in its bounds (R90, R136). -/
def Channel.LevelsSound (c : Channel) : Prop :=
  c.params.valid = true ∧ c.rLevel.Within c.params.rPath ∧ c.tLevel.Within c.params.tPath

theorem Channel.levelsSound_iff (c : Channel) :
    c.LevelsSound ↔ c.params.valid = true ∧ c.GainsInBounds := by
  simp only [Channel.LevelsSound, Channel.GainsInBounds, Level.Within, and_assoc]

/-- The pad of a valid path lies within its bounds (R142). -/
theorem LevelFields.pad_within {f : LevelFields} (h : f.valid = true) : f.gMin ≤ f.pad ∧ f.pad ≤ f.gMax := by
  simp only [LevelFields.valid, Bool.and_eq_true, decide_eq_true_eq] at h
  omega

theorem ParamSet.paths_valid {q : ParamSet} (h : q.valid = true) :
    q.rPath.valid = true ∧ q.tPath.valid = true := by
  simp only [ParamSet.valid, Bool.and_eq_true] at h
  exact ⟨h.1.2, h.2⟩

theorem Level.Within.closeBlock {f : LevelFields} {k : Level} (h : k.Within f) (may : Bool) :
    (k.closeBlock f may).Within f := by
  cases may with
  | false => exact h
  | true =>
    show (k.control f).Within f
    obtain ⟨lower, upper⟩ := h
    unfold Level.control Level.Within
    repeat' split
    all_goals (try dsimp only); omega

/-- An apply of valid fields brings the index within their bounds (R102). -/
theorem Level.within_apply {f : LevelFields} (h : f.valid = true) (k : Level) : (k.apply f).Within f := by
  have := LevelFields.pad_within h
  unfold Level.apply Level.Within appliedGain clampTo
  dsimp only
  split <;> omega

theorem Level.within_clear {f : LevelFields} (h : f.valid = true) : (Level.clear f).Within f :=
  LevelFields.pad_within h

theorem Channel.powerOn_levelsSound : Channel.powerOn.LevelsSound := by
  have within : Level.powerOn.Within levelZero := by simp [Level.Within, Level.powerOn, levelZero]
  exact ⟨by decide, within, within⟩

theorem ChannelMove.keepsLevelsSound {c d : Channel} (h : ChannelMove (fun q => q.valid = true) c d)
    (hc : c.LevelsSound) : d.LevelsSound := by
  obtain ⟨valid, r, t⟩ := hc
  obtain ⟨validR, validT⟩ := ParamSet.paths_valid valid
  have clear : c.clearSignal.LevelsSound := ⟨valid, Level.within_clear validR, Level.within_clear validT⟩
  cases h with
  | powerOn => exact Channel.powerOn_levelsSound
  | restart => exact clear
  | start => exact clear
  | clearSignal => exact clear
  | setFlag f => cases f <;> exact ⟨valid, r, t⟩
  | apply n q hq =>
    obtain ⟨validR', validT'⟩ := ParamSet.paths_valid hq
    exact ⟨hq, Level.within_apply validR' _, Level.within_apply validT' _⟩
  | countSecond =>
    unfold Channel.countSecond
    split <;> exact ⟨valid, r, t⟩
  | frame held b u x =>
    unfold Channel.frame
    cases c.active <;> exact ⟨valid, r, t⟩
  | closeBlock held =>
    unfold Channel.closeBlock
    cases c.active with
    | false => exact ⟨valid, r, t⟩
    | true => exact ⟨valid, r.closeBlock _, t.closeBlock _⟩
  | _ => exact ⟨valid, r, t⟩

theorem State.levelsSound_iff (s : State) :
    s.LevelsSound ↔
      s.EveryFields (fun q => q.valid = true) ∧ s.EveryChannel Channel.LevelsSound := by
  simp only [State.LevelsSound, State.EveryFields, State.EveryChannel, Channel.levelsSound_iff]

end Sys2Proof.Machine

open Sys2Proof Sys2Proof.Machine Sys2Proof.Claims

/-- Settles O56: counts through every move of a channel; levels too, with the profiles valid throughout. -/
theorem stepKeepsCountsAndLevels : Obligations.StepKeepsCountsAndLevels := by
  refine ⟨fun s t hs h => step_keepsChannels (P := Channel.CountsSound)
    (fun _ _ m => m.keepsCountsSound) hs h, fun s t hs h => ?_⟩
  rw [State.levelsSound_iff] at *
  exact step_keeps (fun _ _ hs => hs)
    (fun _ _ e => e.keepsChannels (fun _ hq => hq) (fun _ _ m => m.keepsLevelsSound)) hs h
end

section
/-! PROOFS. Call references through every effect (chapter 6). -/

namespace Sys2Proof.Machine

/-! ### Call references (R107, R109) -/

/-- Every reference held in `t` is held by the same channel in `s`. -/
def State.HoldsNoMore (s t : State) : Prop :=
  ∀ (ch : ChannelNo) (ref : Nat), (t.chan ch).holdsRef ref = true → (s.chan ch).holdsRef ref = true

theorem State.ReferencesUnique.of_holdsNoMore {s t : State} (h : s.HoldsNoMore t) (hs : s.ReferencesUnique) :
    t.ReferencesUnique :=
  ⟨fun ch ref hr => hs.1 ch ref (h ch ref hr),
    fun a b ref ha hb => hs.2 a b ref (h a ref ha) (h b ref hb)⟩

theorem State.holdsNoMore_setChan {s : State} {ch : ChannelNo} {c : Channel}
    (h : ∀ ref, c.holdsRef ref = true → (s.chan ch).holdsRef ref = true) :
    s.HoldsNoMore (s.setChan ch c) := fun k ref => by
  rw [State.chan_setChan]
  split
  · rename_i e
    exact e ▸ h ref
  · exact id

theorem State.holdsNoMore_mapChans {s : State} {f : Channel → Channel}
    (h : ∀ c ref, (f c).holdsRef ref = true → c.holdsRef ref = true) : s.HoldsNoMore (s.mapChans f) :=
  fun k ref => by
    rw [State.chan_mapChans]
    exact h _ ref

/-- No channel holds a reference after reset. -/
theorem State.referencesUnique_reset : State.reset.ReferencesUnique := by
  have none (ch : ChannelNo) (ref : Nat) : (State.reset.chan ch).holdsRef ref = false := by
    rw [show State.reset.chan ch = Channel.powerOn from Table.get_replicate _ _]
    rfl
  exact ⟨fun ch ref h => absurd h (by simp [none]), fun a b ref h => absurd h (by simp [none])⟩

/-- A channel that enters CALL with a reference of 1..65535 that no other holds, or TEST (R110, R115). -/
theorem State.ReferencesUnique.start {s : State} (hs : s.ReferencesUnique) (ch : ChannelNo) {c : Channel}
    (h : c.custody = .test ∨
      ∃ r o, c.custody = .call r o false ∧ r ≠ 0 ∧ r ≤ 65535 ∧ s.refInUse r = false) :
    (s.setChan ch c).ReferencesUnique := by
  obtain test | ⟨r, o, call, nonzero, small, unused⟩ := h
  · exact hs.of_holdsNoMore (State.holdsNoMore_setChan (by simp [Channel.holdsRef, test]))
  have free (k : ChannelNo) : (s.chan k).holdsRef r = false := by
    by_contra held
    have := (s.refInUse_iff r).mpr ⟨k, by simpa using held⟩
    simp [unused] at this
  have own {ref : Nat} : c.holdsRef ref = true ↔ r = ref := by simp [Channel.holdsRef, call]
  refine ⟨fun k ref => ?_, fun a b ref => ?_⟩
  · rw [State.chan_setChan]
    split
    · rw [own]
      omega
    · exact hs.1 k ref
  · rw [State.chan_setChan, State.chan_setChan]
    split <;> split <;> intro ha hb
    · exact ‹ch = a›.symm.trans ‹ch = b›
    · simp [← own.mp ha, free] at hb
    · simp [← own.mp hb, free] at ha
    · exact hs.2 a b ref ha hb

theorem Channel.frame_holdsRef (held b : Bool) (t x : Int) (c : Channel) (ref : Nat) :
    (Channel.frame held b t x c).holdsRef ref = c.holdsRef ref := by
  unfold Channel.frame
  cases c.active <;> rfl

theorem Channel.closeBlock_holdsRef (held : Bool) (c : Channel) (ref : Nat) :
    (Channel.closeBlock held c).holdsRef ref = c.holdsRef ref := by
  unfold Channel.closeBlock
  cases c.active <;> rfl

theorem Effect.keepsReferencesUnique {s t : State} (h : Effect s t) :
    s.ReferencesUnique → t.ReferencesUnique := by
  induction h with
  | refl => exact id
  | trans _ _ ih1 ih2 => exact fun hs => ih2 (ih1 hs)
  | assertReset => exact fun _ => State.referencesUnique_reset
  | releaseReset => exact fun _ => State.referencesUnique_reset
  | start s ch _ h => exact fun hs => hs.start ch h
  | restart s =>
    exact State.ReferencesUnique.of_holdsNoMore (s := s)
      (State.holdsNoMore_mapChans fun c ref h => absurd h (by simp [Channel.holdsRef, Channel.restart]))
  | recustody _ _ _ hr => exact .of_holdsNoMore (State.holdsNoMore_setChan hr)
  | clearSignal => exact .of_holdsNoMore (State.holdsNoMore_setChan fun _ => id)
  | captureMark => exact .of_holdsNoMore (State.holdsNoMore_setChan fun _ => id)
  | flag _ _ f => exact .of_holdsNoMore (State.holdsNoMore_setChan fun _ => by cases f <;> exact id)
  | field s first n f v =>
    refine .of_holdsNoMore fun ch ref => ?_
    unfold State.putField State.chan
    rw [Table.get_mapIdx]
    split
    · cases f <;> exact id
    · exact id
  | assign s ch g =>
    refine .of_holdsNoMore ?_
    unfold State.assign State.applyTo
    rw [State.chan_setChan_self, State.setChan_setChan]
    exact State.holdsNoMore_setChan fun _ => id
  | resume s p =>
    exact State.ReferencesUnique.of_holdsNoMore (s := s)
      (State.holdsNoMore_mapChans fun c ref => by split <;> exact id)
  | regroup s g stack scheduled =>
    refine .of_holdsNoMore fun ch ref => ?_
    rw [State.regroup_chan]
    split <;> exact id
  | tick s =>
    exact State.ReferencesUnique.of_holdsNoMore (s := s)
      (State.holdsNoMore_mapChans fun c ref => by unfold Channel.countSecond; split <;> exact id)
  | frameBegins s n =>
    refine .of_holdsNoMore fun ch ref => ?_
    unfold State.advanceFrame State.nextFrame State.beginFrame
    rw [State.chan_congr (State.countFrame_channels _), State.chan_mapChans]
    exact id
  | opens s p =>
    refine .of_holdsNoMore fun ch ref => ?_
    unfold State.enterLocked State.beginFrame
    rw [State.chan_congr (State.countFrame_channels _), State.chan_mapChans]
    change ((s.mapChans Channel.silence).chan ch).holdsRef ref = true → _
    rw [State.chan_mapChans]
    exact id
  | restored => exact .of_holdsNoMore (State.holdsNoMore_mapChans fun _ _ => id)
  | silenced s =>
    exact State.ReferencesUnique.of_holdsNoMore (s := s) (State.holdsNoMore_mapChans fun _ _ => id)
  | sample =>
    exact .of_holdsNoMore
      (State.holdsNoMore_setChan fun _ => by rw [Channel.frame_holdsRef]; exact id)
  | closed _ _ _ hch =>
    subst hch
    exact .of_holdsNoMore
      (State.holdsNoMore_setChan fun _ => by rw [Channel.closeBlock_holdsRef]; exact id)
  | _ => exact id

end Sys2Proof.Machine

open Sys2Proof Sys2Proof.Machine Sys2Proof.Claims

/-- Settles O57: only SEIZE brings a reference, and it checks that no channel holds it. -/
theorem stepKeepsReferencesUnique : Obligations.StepKeepsReferencesUnique := fun _ _ hs h =>
  step_keeps (fun _ _ hs => hs) (fun _ _ e => e.keepsReferencesUnique) hs h
end

section
/-! PROOFS. Groups, profile 0 and the clock through every effect (chapters 7 and 8). -/

namespace Sys2Proof.Machine

/-! ### Groups (R149, R151) -/

/-- A group obeys R149: at most 4 numbers stacked, and the applied profile as the stack says. -/
def Group.Sound (g : Group) : Prop := g.stack.length ≤ 4 ∧ g.applied = appliedOf g.stack g.scheduled

/-- A channel stands at its group's applied profile (R151). -/
def Channel.Follows (groups : Table Group 8) (c : Channel) : Prop :=
  c.profile = (groups.get c.group).applied

theorem State.groupsSound_iff (s : State) :
    s.GroupsSound ↔ (∀ g, (s.groups.get g).Sound) ∧ s.EveryChannel (Channel.Follows s.groups) :=
  Iff.rfl

theorem State.groupsSound_reset : State.reset.GroupsSound := by
  have group (g : GroupNo) : State.reset.groups.get g = Group.powerOn := Table.get_replicate _ _
  refine ⟨fun g => ?_, fun ch => ?_⟩
  · rw [group]
    decide
  · dsimp only
    rw [group, show State.reset.chan ch = Channel.powerOn from Table.get_replicate _ _]
    rfl

theorem Channel.Follows.frame {groups : Table Group 8} {c : Channel} (h : c.Follows groups) (held b : Bool)
    (t x : Int) : (Channel.frame held b t x c).Follows groups := by
  unfold Channel.frame
  cases c.active <;> exact h

theorem Channel.Follows.closeBlock {groups : Table Group 8} {c : Channel} (h : c.Follows groups)
    (held : Bool) : (Channel.closeBlock held c).Follows groups := by
  unfold Channel.closeBlock
  cases c.active <;> exact h

theorem Channel.Follows.countSecond {groups : Table Group 8} {c : Channel} (h : c.Follows groups) :
    c.countSecond.Follows groups := by
  unfold Channel.countSecond
  split <;> exact h

/-- A regroup writes the applied profile that the new stack gives, and moves the group's channels to it (R149, R151). -/
theorem State.GroupsSound.regroup {s : State} (hs : s.GroupsSound) {g : GroupNo} {stack : List ProfileNo}
    (h : stack.length ≤ max 4 (s.groups.get g).stack.length) (scheduled : ProfileNo) :
    (s.regroup g stack scheduled).GroupsSound := by
  obtain ⟨groups, channels⟩ := hs
  refine ⟨fun k => ?_, fun ch => ?_⟩
  · rw [State.regroup_groups]
    split
    · have := (groups g).1
      exact ⟨by dsimp only; omega, rfl⟩
    · exact groups k
  · have follows := channels ch
    dsimp only at follows ⊢
    rw [State.regroup_groups, State.regroup_chan]
    by_cases own : (s.chan ch).group = g
    · by_cases changed : appliedOf stack scheduled = (s.groups.get g).applied
      · simp [own, changed, follows]
      · simp [own, changed, Channel.applyProfile]
    · simp [own, Ne.symm own, follows]

theorem Effect.keepsGroupsSound {s t : State} (h : Effect s t) : s.GroupsSound → t.GroupsSound := by
  induction h with
  | refl => exact id
  | trans _ _ ih1 ih2 => exact fun hs => ih2 (ih1 hs)
  | assertReset => exact fun _ => State.groupsSound_reset
  | releaseReset => exact fun _ => State.groupsSound_reset
  | restart => exact fun ⟨hg, hc⟩ => ⟨hg, hc.mapChans (f := Channel.restart) fun _ => id⟩
  | start _ ch => exact fun ⟨hg, hc⟩ => ⟨hg, hc.setChan (hc ch)⟩
  | recustody _ ch => exact fun ⟨hg, hc⟩ => ⟨hg, hc.setChan (hc ch)⟩
  | clearSignal _ ch => exact fun ⟨hg, hc⟩ => ⟨hg, hc.setChan (hc ch)⟩
  | captureMark _ ch => exact fun ⟨hg, hc⟩ => ⟨hg, hc.setChan (hc ch)⟩
  | flag _ ch f => exact fun ⟨hg, hc⟩ => ⟨hg, hc.setChan (by cases f <;> exact hc ch)⟩
  | field s first n f v =>
    refine fun ⟨hg, hc⟩ => ⟨hg, fun ch => ?_⟩
    unfold State.putField State.chan
    rw [Table.get_mapIdx]
    split
    · cases f <;> exact hc ch
    · exact hc ch
  | assign s ch g =>
    refine fun ⟨hg, hc⟩ => ⟨hg, ?_⟩
    unfold State.assign State.applyTo
    rw [State.chan_setChan_self, State.setChan_setChan]
    exact hc.setChan rfl
  | groupDefault s g p =>
    refine fun ⟨hg, hc⟩ => ⟨fun k => ?_, fun ch => ?_⟩
    · simp only [State.setGroup, Table.get_set]
      split
      · exact hg g
      · exact hg k
    · refine Eq.trans (hc ch) ?_
      simp only [State.setGroup, Table.get_set]
      split
      · rename_i e
        exact e ▸ rfl
      · rfl
  | resume s p =>
    refine fun ⟨hg, hc⟩ => ⟨hg, State.EveryChannel.mapChans (s := s.setProfile p _) hc fun c h => ?_⟩
    split
    · rename_i e
      exact (beq_iff_eq.mp e).symm.trans h
    · exact h
  | regroup _ _ _ _ h => exact fun hs => hs.regroup h _
  | tick =>
    exact fun ⟨hg, hc⟩ => ⟨hg, hc.mapChans fun _ => Channel.Follows.countSecond⟩
  | frameBegins s n =>
    intro hs
    rw [State.groupsSound_iff] at hs ⊢
    rw [State.advanceFrame_groups]
    unfold State.advanceFrame State.nextFrame State.beginFrame
    exact ⟨hs.1, fun ch => (State.chan_congr (State.countFrame_channels _) ch).symm ▸
      hs.2.mapChans (f := Channel.beginFrame) (fun _ => id) ch⟩
  | opens s p =>
    intro hs
    rw [State.groupsSound_iff] at hs ⊢
    rw [State.enterLocked_groups]
    unfold State.enterLocked State.beginFrame
    exact ⟨hs.1, fun ch => (State.chan_congr (State.countFrame_channels _) ch).symm ▸
      (hs.2.mapChans (f := Channel.silence) fun _ => id).mapChans (f := Channel.beginFrame)
        (fun _ => id) ch⟩
  | restored => exact fun ⟨hg, hc⟩ => ⟨hg, hc.mapChans fun _ => id⟩
  | silenced => exact fun ⟨hg, hc⟩ => ⟨hg, hc.mapChans (f := Channel.loseFrame) fun _ => id⟩
  | sample _ ch => exact fun ⟨hg, hc⟩ => ⟨hg, hc.setChan (Channel.Follows.frame (hc ch) _ _ _ _)⟩
  | closed _ ch _ hch =>
    subst hch
    exact fun ⟨hg, hc⟩ => ⟨hg, hc.setChan (Channel.Follows.closeBlock (hc ch) _)⟩
  | _ => exact id

/-! ### Profile 0 (R137) -/

theorem State.profileZeroFixed_iff (s : State) :
    s.ProfileZeroFixed ↔ s.profiles.get 0 = Profile.powerOn := by
  unfold State.ProfileZeroFixed State.fieldsOf State.heldOf Profile.powerOn
  cases s.profiles.get 0
  simp

theorem State.profileZeroFixed_reset : State.reset.ProfileZeroFixed :=
  (State.profileZeroFixed_iff _).mpr (Table.get_replicate _ _)

theorem Effect.keepsProfileZeroFixed {s t : State} (h : Effect s t) :
    s.ProfileZeroFixed → t.ProfileZeroFixed := by
  simp only [State.profileZeroFixed_iff]
  induction h with
  | refl => exact id
  | trans _ _ ih1 ih2 => exact fun hs => ih2 (ih1 hs)
  | assertReset | releaseReset =>
    exact fun _ => (State.profileZeroFixed_iff State.reset).mp State.profileZeroFixed_reset
  | hold _ _ h => exact fun hs => (Table.get_set_ne _ _ h).trans hs
  | writeFields _ _ _ h => exact fun hs => (Table.get_set_ne _ _ h).trans hs
  | resume s p h =>
    intro hs
    have other : p ≠ 0 := by
      rintro rfl
      rw [State.heldOf, hs] at h
      exact absurd h (by decide)
    exact (Table.get_set_ne _ _ other).trans hs
  | assign | regroup | frameBegins | opens => simp
  | _ => exact id

/-! ### The clock (R161, R163) -/

theorem daysOf_pos (year month : Nat) : 1 ≤ Claims.daysOf year month := by
  unfold Claims.daysOf
  repeat' split
  all_goals omega

/-- The date one day on is valid, and so is its weekday (R163, R164). -/
theorem Clock.valid_nextDay {c : Clock} (h : c.valid = true) : c.nextDay.valid = true := by
  rw [Clock.valid_iff] at h ⊢
  obtain ⟨year, month1, month12, day1, dayLast, hour, minute, second, weekday⟩ := h
  have weekday' : (if 6 ≤ c.weekday then 0 else c.weekday + 1) ≤ 6 := by split <;> omega
  unfold Clock.nextDay
  dsimp only
  split
  · rename_i inMonth
    rw [monthLength_eq_daysOf _ month1 month12] at inMonth
    exact ⟨year, month1, month12, by dsimp only; omega, inMonth, hour, minute, second, weekday'⟩
  · split
    · exact ⟨year, by dsimp only; omega, by assumption, le_refl 1, daysOf_pos _ _, hour, minute, second,
        weekday'⟩
    · exact ⟨by dsimp only; split <;> omega, le_refl 1, Nat.one_le_ofNat, le_refl 1, daysOf_pos _ _, hour, minute,
        second, weekday'⟩

theorem Clock.valid_tick {c : Clock} (h : c.valid = true) : c.tick.valid = true := by
  have ⟨year, month1, month12, day1, dayLast, hour, minute, second, weekday⟩ := (Clock.valid_iff c).mp h
  unfold Clock.tick
  split
  · exact (Clock.valid_iff _).mpr
      ⟨year, month1, month12, day1, dayLast, hour, minute, by assumption, weekday⟩
  · split
    · exact (Clock.valid_iff _).mpr
        ⟨year, month1, month12, day1, dayLast, hour, by assumption, Nat.zero_le _, weekday⟩
    · split
      · exact (Clock.valid_iff _).mpr
          ⟨year, month1, month12, day1, dayLast, by assumption, Nat.zero_le _, Nat.zero_le _, weekday⟩
      · exact Clock.valid_nextDay ((Clock.valid_iff _).mpr
          ⟨year, month1, month12, day1, dayLast, Nat.zero_le _, Nat.zero_le _, Nat.zero_le _, weekday⟩)

@[simp] theorem Clock.tick_fis (c : Clock) : c.tick.fis = 0 := by
  unfold Clock.tick Clock.nextDay
  repeat' split
  all_goals rfl

/-- A frame counts one more, or raises the tick at 7999 (R13, R163). -/
theorem State.ClockSound.countFrame {s : State} (h : s.ClockSound) : s.countFrame.ClockSound := by
  obtain ⟨valid, range, tick⟩ := h
  unfold State.countFrame
  split
  · exact ⟨valid, range, fun _ => by dsimp only; omega⟩
  · exact ⟨valid, by dsimp only; omega, fun due => absurd (tick due) (by omega)⟩

theorem State.clockSound_reset : State.reset.ClockSound :=
  ⟨by decide, Nat.zero_le _, fun due => absurd due Bool.false_ne_true⟩

theorem Effect.keepsClockSound {s t : State} (h : Effect s t) : s.ClockSound → t.ClockSound := by
  induction h with
  | refl => exact id
  | trans _ _ ih1 ih2 => exact fun hs => ih2 (ih1 hs)
  | assertReset | releaseReset => exact fun _ => State.clockSound_reset
  | loadClock _ c h hf =>
    exact fun _ => ⟨h, hf.trans_le (Nat.zero_le _), fun due => absurd due Bool.false_ne_true⟩
  | tick s =>
    exact fun hs => ⟨Clock.valid_tick hs.1, (Clock.tick_fis s.clock).trans_le (Nat.zero_le _),
      fun due => absurd due Bool.false_ne_true⟩
  | regroup => simp [State.ClockSound]
  | frameBegins =>
    intro hs
    unfold State.advanceFrame State.nextFrame State.beginFrame
    refine State.ClockSound.countFrame ?_
    exact hs
  | opens =>
    intro hs
    unfold State.enterLocked State.beginFrame
    refine State.ClockSound.countFrame ?_
    exact hs
  | silenced => exact fun hs => ⟨hs.1, hs.2.1, fun due => absurd due Bool.false_ne_true⟩
  | _ => exact id

end Sys2Proof.Machine

open Sys2Proof Sys2Proof.Machine Sys2Proof.Claims

/-- Settles O58: groups and profile 0 through every effect, and the clock apart. -/
theorem stepKeepsGroupsAndClock : Obligations.StepKeepsGroupsAndClock :=
  ⟨fun _ _ hs h =>
    step_keeps (P := fun s => s.GroupsSound ∧ s.ProfileZeroFixed) (fun _ _ hs => hs)
      (fun _ _ e hs => ⟨e.keepsGroupsSound hs.1, e.keepsProfileZeroFixed hs.2⟩) hs h,
    fun _ _ hs h => step_keeps (fun _ _ hs => hs) (fun _ _ e => e.keepsClockSound) hs h⟩
end

section
/-! PROOFS. The record ring and the links through every effect (chapters 9 and 10): slot ownership, the report and the lines,
the transmitters. -/

namespace Sys2Proof.Machine

/-! ### Slot ownership (R178) -/

/-- A slot that a link owns holds a record for that link. -/
def Ring.Sound (r : Ring) : Prop := ∀ (i : SlotNo) (l : Link) (x : Record), r.slots.get i = .owned l x → x.dest = l

/-- A table of slots each of which obeys R178 still does after a record for `l` is written as `l`'s. -/
theorem slots_sound_set {slots : Table Slot 64}
    (h : ∀ (i : SlotNo) (l : Link) (x : Record), slots.get i = .owned l x → x.dest = l) (i : SlotNo)
    {v : Slot} (hv : ∀ l x, v = .owned l x → x.dest = l) :
    ∀ (j : SlotNo) (l : Link) (x : Record), (slots.set i v).get j = .owned l x → x.dest = l := by
  intro j l x
  rw [Table.get_set]
  split
  · exact hv l x
  · exact h j l x

theorem Ring.sound_powerOn : Ring.powerOn.Sound := fun i l x h => by
  rw [Ring.powerOn_slot] at h
  exact absurd h (by simp)

theorem Ring.Sound.put {r : Ring} (h : r.Sound) (stamp : Stamp) (l : Link) (ch : Option ChannelNo)
    (p : Payload) : (r.put stamp l ch p).Sound := by
  unfold Ring.put
  split
  · refine slots_sound_set h _ fun k x e => ?_
    injection e with e1 e2
    subst e1 e2
    rfl
  · exact h

theorem Ring.Sound.captureSlots {r : Ring} (h : r.Sound) (stamp : Stamp) (ch : ChannelNo) (c : Channel)
    (n k : Nat) : ∀ (m : Nat) (i : SlotNo) (l : Link) (x : Record),
      (r.captureSlots stamp ch c n k m).get i = .owned l x → x.dest = l
  | 0 => h
  | m + 1 => slots_sound_set (h.captureSlots stamp ch c n k m) _ fun l x e => by
    injection e with e1 e2
    subst e1 e2
    rfl

theorem Ring.Sound.putCapture {r : Ring} (h : r.Sound) (stamp : Stamp) (ch : ChannelNo) (c : Channel) :
    (r.putCapture stamp ch c).Sound := by
  unfold Ring.putCapture
  dsimp only
  split
  · exact h
  · exact h.captureSlots stamp ch c _ _ _

theorem Ring.Sound.free {r : Ring} (h : r.Sound) (i : SlotNo) : (r.free i).Sound :=
  slots_sound_set h i fun _ _ e => absurd e (by simp)

theorem Effect.keepsSlotsSound {s t : State} (h : Effect s t) : s.ring.Sound → t.ring.Sound := by
  induction h with
  | refl => exact id
  | trans _ _ ih1 ih2 => exact fun hs => ih2 (ih1 hs)
  | assertReset => exact fun _ => Ring.sound_powerOn
  | releaseReset => exact fun _ => Ring.sound_powerOn
  | restart => exact fun _ => Ring.sound_powerOn
  | hand => exact fun hs => hs.put _ _ _ _
  | capture => exact fun hs => hs.putCapture _ _ _
  | free => exact fun hs => hs.free _
  | regroup | frameBegins | opens => simp
  | _ => exact id

/-! ### The report and the line (R194, R213) -/

/-- A link controller holds the ring's report, and its line follows its conditions and its mask. -/
def LinkCtl.Sound (r : Ring) (l : Link) (k : LinkCtl) : Prop :=
  (k.conds.owned = r.ownedCount l ∧ k.conds.oldest = r.oldest l) ∧ k.line = k.conds.drives l k.mask

/-- Both link controllers are sound with the ring. -/
def State.LinksSound (s : State) : Prop := ∀ l : Link, (s.link l).Sound s.ring l

theorem State.linksSound_iff (s : State) : s.LinksSound ↔ s.ReportsCurrent ∧ s.LinesFollow :=
  forall_and

theorem State.LinksSound.setLink {s : State} (hs : s.LinksSound) {l : Link} {k : LinkCtl}
    (hk : k.Sound s.ring l) : (s.setLink l k).LinksSound := fun j => by
  rw [State.link_setLink]
  split
  · rename_i e
    exact e ▸ hk
  · exact hs j

/-- Whatever the ring becomes, the report tells both links, and their lines follow. -/
theorem State.linksSound_withRing (s : State) (r : Ring) : (s.withRing r).LinksSound := fun l => by
  rw [State.link_withRing]
  exact ⟨⟨rfl, rfl⟩, rfl⟩

/-- Over a ring without records a controller with a quiet report needs only its line. -/
theorem LinkCtl.sound_powerOn {l : Link} {k : LinkCtl} (owned : k.conds.owned = 0)
    (oldest : k.conds.oldest = none) (line : k.line = k.conds.drives l k.mask) :
    k.Sound Ring.powerOn l := by
  refine ⟨⟨owned.trans ?_, oldest.trans ?_⟩, line⟩
  · cases l <;> decide
  · refine (List.find?_eq_none.mpr fun i _ => ?_).symm
    rw [Ring.powerOn_slot]
    exact Bool.false_ne_true

theorem State.linksSound_reset : State.reset.LinksSound := fun l => by
  cases l <;> exact LinkCtl.sound_powerOn rfl rfl rfl

theorem Effect.keepsLinksSound {s t : State} (h : Effect s t) : s.LinksSound → t.LinksSound := by
  induction h with
  | refl => exact id
  | trans _ _ ih1 ih2 => exact fun hs => ih2 (ih1 hs)
  | releaseReset => exact fun _ => State.linksSound_reset
  | assertReset | restart =>
    exact fun _ l => by cases l <;> exact LinkCtl.sound_powerOn rfl rfl rfl
  | receiver _ l => exact fun hs => hs.setLink (hs l)
  | response _ l => exact fun hs => hs.setLink (hs l)
  | restartResponse s =>
    exact fun hs => State.LinksSound.setLink (s := { s with restartPending := true }) hs (hs .mLink)
  | sent _ l => exact fun hs => hs.setLink (hs l)
  | base _ l => exact fun hs => hs.setLink (hs l)
  | mask _ l => exact fun hs => hs.setLink ⟨(hs l).1, rfl⟩
  | conditions s l f h =>
    obtain ⟨owned, oldest⟩ := h (s.link l).conds
    exact fun hs => hs.setLink ⟨⟨owned.trans (hs l).1.1, oldest.trans (hs l).1.2⟩, rfl⟩
  | hand => exact fun _ => State.linksSound_withRing _ _
  | capture => exact fun _ => State.linksSound_withRing _ _
  | free => exact fun _ => State.linksSound_withRing _ _
  | loadClock s =>
    exact fun hs => State.LinksSound.setLink (s := { s with clock := _, tickDue := false }) hs
      ⟨(hs .mLink).1, rfl⟩
  | regroup | frameBegins | opens => simp [State.LinksSound, State.link]
  | _ => exact id

/-! ### The transmitters (R200, R205) -/

theorem State.TransmittersSound.setLink {s : State} (hs : s.TransmittersSound) {l : Link} {k : LinkCtl}
    (busy : k.busy = k.tx.isSome) (wait : (s.link l).busy = true → k.busy = true) :
    (s.setLink l k).TransmittersSound := by
  refine ⟨fun j => ?_, fun pending => ?_⟩
  · rw [State.link_setLink]
    split
    · exact busy
    · exact hs.1 j
  · have := hs.2 pending
    cases l
    · exact this
    · exact wait this

/-- A change of a link that touches neither its response nor its busy mark. -/
theorem State.TransmittersSound.setLink_same {s : State} (hs : s.TransmittersSound) {l : Link} {k : LinkCtl}
    (tx : k.tx = (s.link l).tx) (busy : k.busy = (s.link l).busy) : (s.setLink l k).TransmittersSound :=
  hs.setLink (by rw [tx, busy]; exact hs.1 l) (by rw [busy]; exact id)

theorem State.TransmittersSound.withRing {s : State} (hs : s.TransmittersSound) (r : Ring) :
    (s.withRing r).TransmittersSound :=
  ⟨fun l => by rw [State.link_withRing]; exact hs.1 l, hs.2⟩

/-- With no restart waiting a busy mark need only match its response. -/
theorem State.transmittersSound_of_idle {s : State} (h : ∀ l, (s.link l).busy = (s.link l).tx.isSome)
    (idle : s.restartPending = false) : s.TransmittersSound :=
  ⟨h, fun pending => absurd (idle.symm.trans pending) Bool.false_ne_true⟩

theorem State.transmittersSound_reset : State.reset.TransmittersSound :=
  State.transmittersSound_of_idle (fun l => by cases l <;> rfl) rfl

theorem Effect.keepsTransmittersSound {s t : State} (h : Effect s t) :
    s.TransmittersSound → t.TransmittersSound := by
  induction h with
  | refl => exact id
  | trans _ _ ih1 ih2 => exact fun hs => ih2 (ih1 hs)
  | releaseReset => exact fun _ => State.transmittersSound_reset
  | assertReset => exact fun _ => State.transmittersSound_of_idle (fun l => by cases l <;> rfl) rfl
  | restart =>
    refine fun hs => State.transmittersSound_of_idle (fun l => ?_) rfl
    cases l
    · exact hs.1 .cLink
    · rfl
  | receiver => exact fun hs => hs.setLink_same rfl rfl
  | response => exact fun hs => hs.setLink rfl fun _ => rfl
  | restartResponse s =>
    refine fun hs => ⟨fun l => ?_, fun _ => rfl⟩
    cases l
    · exact hs.1 .cLink
    · rfl
  | sent s l h =>
    refine fun hs => ⟨fun j => ?_, fun pending => ?_⟩
    · rw [State.link_setLink]
      split
      · rfl
      · exact hs.1 j
    · cases l with
      | cLink => exact hs.2 pending
      | mLink => exact absurd (h.symm.trans pending) Bool.false_ne_true
  | base => exact fun hs => hs.setLink_same rfl rfl
  | mask => exact fun hs => hs.setLink_same rfl rfl
  | conditions => exact fun hs => hs.setLink_same rfl rfl
  | hand => exact fun hs => hs.withRing _
  | capture => exact fun hs => hs.withRing _
  | free => exact fun hs => hs.withRing _
  | loadClock s =>
    exact fun hs => State.TransmittersSound.setLink_same (s := { s with clock := _, tickDue := false }) hs
      rfl rfl
  | regroup | frameBegins | opens => simp [State.TransmittersSound, State.link]
  | _ => exact id

end Sys2Proof.Machine

open Sys2Proof Sys2Proof.Machine Sys2Proof.Claims

/-- Settles O59: the ring, the report with the lines, and the transmitters, each through every effect. -/
theorem stepKeepsLinksAndRing : Obligations.StepKeepsLinksAndRing := by
  refine ⟨fun _ _ hs h => ?_, fun s t hs h => ?_, fun _ _ hs h => ?_⟩
  · exact step_keeps (P := fun s => s.ring.Sound) (fun _ _ hs => hs) (fun _ _ e => e.keepsSlotsSound) hs h
  · rw [← State.linksSound_iff] at *
    exact step_keeps (fun _ _ hs => hs) (fun _ _ e => e.keepsLinksSound) hs h
  · exact step_keeps (fun _ _ hs => hs) (fun _ _ e => e.keepsTransmittersSound) hs h
end

section
/-! PROOFS. The highway through every effect (chapter 1): silent out of LOCKED, and its runs and counter in range. -/

namespace Sys2Proof.Machine

/-- Both outputs are 0 and no event is owed the channel (R3, R8). -/
def Channel.Silent (c : Channel) : Prop :=
  c.xOut = 0 ∧ c.zOut = 0 ∧ c.frameDue = false ∧ c.blockDue = false

/-- What holds of the highway's own items in each lock state. -/
def Highway.Sound (h : Highway) : Prop :=
  (h.lock ≠ .locked → h.expected = none ∧ h.goodRun ≤ 7) ∧
    (h.lock = .locked → h.expected.isSome = true ∧ h.badRun ≤ 2) ∧ h.frame ≤ 7999

/-- Out of LOCKED every channel is silent and no tick is owed. -/
def State.SilentOutOfLock (s : State) : Prop :=
  s.highway.lock ≠ .locked → s.EveryChannel Channel.Silent ∧ s.tickDue = false

theorem State.highwaySound_iff (s : State) : s.HighwaySound ↔ s.highway.Sound ∧ s.SilentOutOfLock := by
  unfold State.HighwaySound Highway.Sound State.SilentOutOfLock
  constructor
  · rintro ⟨out, within, frame⟩
    exact ⟨⟨fun h => (out h).2.2, within, frame⟩, fun h => ⟨(out h).1, (out h).2.1⟩⟩
  · rintro ⟨⟨out, within, frame⟩, silent⟩
    exact ⟨fun h => ⟨(silent h).1, (silent h).2, out h⟩, within, frame⟩

/-! ### The highway's own items -/

theorem State.countFrame_highway_sound {s : State} (h : s.highway.Sound) : s.countFrame.highway.Sound := by
  rwa [State.countFrame_highway]

theorem Highway.powerOn_sound : Highway.powerOn.Sound :=
  ⟨fun _ => ⟨rfl, Nat.zero_le _⟩, fun h => absurd h (by decide), Nat.zero_le _⟩

theorem Effect.keepsHighwaySound {s t : State} (h : Effect s t) : s.highway.Sound → t.highway.Sound := by
  induction h with
  | refl => exact id
  | trans _ _ ih1 ih2 => exact fun hs => ih2 (ih1 hs)
  | assertReset | releaseReset => exact fun _ => Highway.powerOn_sound
  | pulse s p h hr =>
    exact fun ⟨out, within, frame⟩ => ⟨fun _ => ⟨(out h).1, Nat.le_of_lt_succ hr⟩, within, frame⟩
  | pulseTimeout s h =>
    exact fun ⟨out, within, frame⟩ => ⟨fun _ => ⟨(out h).1, Nat.zero_le _⟩, within, frame⟩
  | frameBegins s n locked hn =>
    rintro ⟨out, within, frame⟩
    unfold State.advanceFrame State.nextFrame State.beginFrame
    refine State.countFrame_highway_sound ⟨fun h => absurd locked h, fun h => ⟨?_, hn⟩, ?_⟩
    · simpa using (within h).1
    · show (if 7999 ≤ s.highway.frame then 0 else s.highway.frame + 1) ≤ 7999
      split <;> omega
  | opens s p =>
    intro _
    unfold State.enterLocked State.beginFrame
    exact State.countFrame_highway_sound
      ⟨fun h => absurd rfl h, fun _ => ⟨rfl, Nat.zero_le _⟩, Nat.zero_le _⟩
  | silenced =>
    exact fun hs => ⟨fun _ => ⟨rfl, Nat.zero_le _⟩, fun h => absurd h (by simp), hs.2.2⟩
  | regroup => simp
  | _ => exact id

/-! ### Silence out of LOCKED -/

/-- Nothing out of LOCKED is asked of a state in LOCKED. -/
theorem State.silentOutOfLock_of_locked {s : State} (h : s.highway.lock = .locked) : s.SilentOutOfLock :=
  fun out => absurd h out

theorem State.SilentOutOfLock.setChan {s : State} (hs : s.SilentOutOfLock) {ch : ChannelNo} {c : Channel}
    (hc : (s.chan ch).Silent → c.Silent) : (s.setChan ch c).SilentOutOfLock := fun out =>
  ⟨(hs out).1.setChan (hc ((hs out).1 ch)), (hs out).2⟩

theorem Channel.Silent.closeBlock {c : Channel} (h : c.Silent) (held : Bool) :
    (Channel.closeBlock held c).Silent := by
  obtain ⟨x, z, frame, -⟩ := h
  unfold Channel.closeBlock
  cases c.active <;> exact ⟨x, z, frame, rfl⟩

theorem Channel.Silent.countSecond {c : Channel} (h : c.Silent) : c.countSecond.Silent := by
  unfold Channel.countSecond
  split <;> exact h

theorem State.silentOutOfLock_reset : State.reset.SilentOutOfLock := fun _ =>
  ⟨State.everyChannel_reset ⟨rfl, rfl, rfl, rfl⟩, rfl⟩

theorem Effect.keepsSilentOutOfLock {s t : State} (h : Effect s t) :
    s.SilentOutOfLock → t.SilentOutOfLock := by
  induction h with
  | refl => exact id
  | trans _ _ ih1 ih2 => exact fun hs => ih2 (ih1 hs)
  | assertReset | releaseReset => exact fun _ => State.silentOutOfLock_reset
  | restart => exact fun hs out => ⟨(hs out).1.mapChans (f := Channel.restart) fun _ => id, (hs out).2⟩
  | start => exact fun hs => hs.setChan id
  | recustody => exact fun hs => hs.setChan id
  | clearSignal => exact fun hs => hs.setChan id
  | captureMark => exact fun hs => hs.setChan id
  | flag _ _ f => exact fun hs => hs.setChan (by cases f <;> exact id)
  | field s first n f v =>
    refine fun hs out => ⟨fun ch => ?_, (hs out).2⟩
    have silent := (hs out).1 ch
    unfold State.putField State.chan
    rw [Table.get_mapIdx]
    split
    · cases f <;> exact silent
    · exact silent
  | assign s ch g =>
    unfold State.assign State.applyTo
    rw [State.chan_setChan_self, State.setChan_setChan]
    exact fun hs => hs.setChan id
  | resume s p =>
    exact fun hs out => ⟨State.EveryChannel.applyWhere (s := s.setProfile p _) (hs out).1 (fun _ => id) _,
      (hs out).2⟩
  | regroup s g stack scheduled =>
    intro hs out
    rw [State.regroup_highway] at out
    refine ⟨fun ch => ?_, by simpa using (hs out).2⟩
    rw [State.regroup_chan]
    split <;> exact (hs out).1 ch
  | loadClock => exact fun hs out => ⟨(hs out).1, rfl⟩
  | tick =>
    exact fun hs out => ⟨(hs out).1.mapChans fun _ => Channel.Silent.countSecond, rfl⟩
  | lockedPulse _ _ locked => exact fun _ => State.silentOutOfLock_of_locked locked
  | frameBegins s n locked =>
    refine fun _ => State.silentOutOfLock_of_locked ?_
    unfold State.advanceFrame State.nextFrame State.beginFrame
    rw [State.countFrame_highway]
    exact locked
  | opens =>
    refine fun _ => State.silentOutOfLock_of_locked ?_
    unfold State.enterLocked State.beginFrame
    rw [State.countFrame_highway]
    rfl
  | restored => exact fun hs out => ⟨(hs out).1.mapChans fun _ => id, (hs out).2⟩
  | silenced s =>
    refine fun _ _ => ⟨fun ch => ?_, rfl⟩
    show ((s.mapChans Channel.loseFrame).chan ch).Silent
    rw [State.chan_mapChans]
    exact ⟨rfl, rfl, rfl, rfl⟩
  | sample _ _ _ _ locked => exact fun _ => State.silentOutOfLock_of_locked locked
  | closed _ _ _ hch =>
    subst hch
    exact fun hs => hs.setChan fun silent => silent.closeBlock _
  | _ => exact id

end Sys2Proof.Machine

open Sys2Proof Sys2Proof.Machine Sys2Proof.Claims

/-- Settles O60: the highway's own items through every effect, and the silence that goes with them. -/
theorem stepKeepsTheHighwaySilentOutOfLock : Obligations.StepKeepsTheHighwaySilentOutOfLock := by
  intro s t hs h
  rw [State.highwaySound_iff] at *
  exact step_keeps (P := fun s => s.highway.Sound ∧ s.SilentOutOfLock) (fun _ _ hs => hs)
    (fun _ _ e hs => ⟨e.keepsHighwaySound hs.1, e.keepsSilentOutOfLock hs.2⟩) hs h
end

section
/-! PROOFS. The step and the queue, completion of every well-formed command, and the laws after reset. -/

namespace Sys2Proof.Machine

/-! ### The queue -/

/-- No effect touches the queue, the model's own field (assumption 1). -/
theorem Effect.pending_eq {s t : State} (h : Effect s t) : t.pending = s.pending := by
  induction h with
  | trans _ _ ih1 ih2 => exact ih2.trans ih1
  | regroup | frameBegins | opens => simp
  | _ => rfl

/-! ### Every well-formed command completes -/

/-- An outcome is a next state. -/
def Completes (o : Host.Outcome State Fault Refusal) : Prop := ∃ t, o = .next t

theorem completes_next (t : State) : Completes (.next t) := ⟨t, rfl⟩

theorem completes_opcode (op : Opcode) (l : Link) (tag : Byte) (ps : List Byte) (s : State) :
    Completes (exec (op.instr l tag ps) s) := by
  cases op <;> exact completes_next _

theorem completes_unknown {code : Byte} (h : Opcode.ofCode code = none) (l : Link) (tag : Byte)
    (ps : List Byte) (s : State) : Completes (execUnknownCommand l code tag ps s) := by
  unfold execUnknownCommand
  rw [h]
  exact completes_next _

/-- A frame that is taken carries a command of the catalogue or an unknown CODE, never both (R208). -/
theorem completes_takeFrame (l : Link) (code tag : Byte) (ps : List Byte) (s : State) :
    Completes (takeFrame l code tag ps s) := by
  unfold takeFrame
  cases h : Opcode.ofCode code with
  | some op =>
    dsimp only
    rw [Effect.runOpcode_eq]
    exact completes_opcode op l tag ps s
  | none => exact completes_unknown h l tag ps s

theorem completes_judgeFrame (l : Link) (bytes : List Byte) (s : State) :
    Completes (judgeFrame l bytes s) := by
  unfold judgeFrame
  split
  · exact completes_next _
  split
  · exact completes_next _
  split
  · exact completes_takeFrame _ _ _ _ _
  · exact completes_next _

theorem completes_extendFrame (l : Link) (bytes : List Byte) (s : State) :
    Completes (extendFrame l bytes s) := by
  unfold extendFrame
  split
  · split <;> exact completes_next _
  · split
    · exact completes_judgeFrame _ _ _
    · exact completes_next _

theorem completes_receiveByte (l : Link) (b : Byte) (s : State) : Completes (execReceiveByte l b s) := by
  unfold execReceiveByte
  split
  · exact completes_next _
  split
  · exact completes_next _
  · exact completes_next _
  · split <;> exact completes_next _
  · exact completes_extendFrame _ _ _

end Sys2Proof.Machine

open Sys2Proof Sys2Proof.Machine Sys2Proof.Claims

/-- Settles O1: the two forms of the queue. -/
theorem stepRunsTheFrontCommand : Obligations.StepRunsTheFrontCommand := by
  refine ⟨fun c q s h => ?_, fun s h => ?_⟩
  · simp only [step, h]
  · simp only [step, h]

/-- Settles O4: the power-on channel obeys each law of a channel, and the rest of the part starts lawful. -/
theorem resetStateIsLawful : Obligations.ResetStateIsLawful := by
  obtain ⟨reports, lines⟩ := (State.linksSound_iff _).mp State.linksSound_reset
  exact ⟨State.everyChannel_reset Channel.powerOn_measured,
    State.everyChannel_reset Channel.powerOn_samplesInRange,
    State.everyChannel_reset Channel.powerOn_coefficientsSound,
    State.everyChannel_reset Channel.powerOn_countsSound,
    (State.levelsSound_iff _).mpr
      ⟨State.everyFields_reset Channel.powerOn_levelsSound.1,
        State.everyChannel_reset Channel.powerOn_levelsSound⟩,
    State.referencesUnique_reset, State.groupsSound_reset, State.profileZeroFixed_reset,
    State.clockSound_reset, Ring.sound_powerOn, reports, lines, State.transmittersSound_reset,
    (State.highwaySound_iff _).mpr ⟨Highway.powerOn_sound, State.silentOutOfLock_reset⟩⟩

/-- Settles O2: every command is a chain of effects, and none of them touches the queue. -/
theorem commandsLeaveTheQueueAlone : Obligations.CommandsLeaveTheQueueAlone := fun _ _ _ h =>
  (Effect.of_exec h).pending_eq

/-- Settles O3: the arms of exec but two answer next by their form; UNKNOWN_COMMAND does by its CODE, and a byte by the
receiver's states. -/
theorem wellFormedCommandsComplete : Obligations.WellFormedCommandsComplete := by
  intro c s h
  cases c with
  | unknownCommand l code tag ps =>
    simp only [Instr.WellFormed, Bool.and_eq_true, Option.isNone_iff_eq_none] at h
    exact completes_unknown h.1 l tag ps s
  | receiveByte l b => exact completes_receiveByte l b s
  | _ => exact completes_next _
end

section
/-! PROOFS. MODIFY CALL, RESTART CHANNEL, ASSIGN CHANNEL and REQUEST CAPTURE (chapters 6 and 9), and the flag commands. -/

namespace Sys2Proof.Machine

open Sys2Proof.Claims

/-- A channel is active exactly out of IDLE. -/
theorem Channel.active_eq_false_iff (c : Channel) : c.active = false ↔ c.custody = .idle := by
  rw [Channel.active_eq_inUse]
  simp [inUse]

theorem Channel.active_iff (c : Channel) : c.active = true ↔ c.custody ≠ .idle := by
  rw [Channel.active_eq_inUse]
  simp [inUse]

/-- RESTART CHANNEL's clears are those that R122 lists. -/
theorem Channel.clearSignal_eq_freshSignal (c : Channel) : c.clearSignal = freshSignal c := rfl

/-- A channel that joins a group applies its applied profile as it stands (R123). -/
theorem State.assign_eq (s : State) (ch : ChannelNo) (g : GroupNo) :
    s.assign ch g =
      s.setChan ch
        (applied (s.groups.get g).applied (s.profiles.get (s.groups.get g).applied).fields
          { s.chan ch with group := g }) := by
  unfold State.assign State.applyTo
  rw [State.chan_setChan_self, State.setChan_setChan, Channel.applyProfile_eq_applied]
  rfl

/-! ### The checks of R127 -/

/-- The checks of the flag commands in the statements' words: displacement, addressed channel, selector. -/
theorem withFlag_send {op : Opcode} {l : Link} {tag d sel : Byte} {s : State}
    {k : ChannelNo → FlagName → Reply} {passed : ChannelNo → State}
    (h : ∀ f, parseFlag sel = some f → (∀ c : Channel, c.flag f = flagOf sel c) →
      (∀ (c : Channel) (v : Bool), c.setFlag f v = withFlagSet sel v c) →
      ∀ ch, (k ch f).send l op.code tag = passed ch) :
    (withFlag l d sel s k).send l op.code tag = flagChecked l op tag d sel s passed := by
  unfold withFlag flagChecked
  by_cases hd : d.toInt < -16 ∨ 15 < d.toInt
  · rw [if_pos hd, if_pos ((dispOk_eq_false_iff d).mpr hd), State.refuse_send]
  rw [if_neg hd, if_neg (mt (dispOk_eq_false_iff d).mp hd)]
  by_cases hin : 0 ≤ addressedBy l d s ∧ addressedBy l d s < 32
  · have found : channelAt (s.addressed l d) = some ⟨(addressedBy l d s).toNat, by omega⟩ := dif_pos hin
    simp only [found, dif_pos hin]
    by_cases hsel : sel = 1#8 ∨ sel = 2#8
    · obtain ⟨f, hf, hget, hset⟩ := parseFlag_eq_some hsel
      simp only [if_pos hsel, hf, h f hf hget hset]
    · obtain ⟨h1, h2⟩ := not_or.mp hsel
      simp only [if_neg hsel, parseFlag_eq_none h1 h2, State.refuse_send]
  · have none : channelAt (s.addressed l d) = none := channelAt_eq_none hin
    simp only [none, dif_neg hin, State.refuse_send]

end Sys2Proof.Machine

open Sys2Proof Sys2Proof.Machine Sys2Proof.Claims

/-- Settles O38: the checks of R114 in order; the custody decides, and a call's reference. -/
theorem modifyCallSetsTheOptions : Obligations.ModifyCallSetsTheOptions := by
  intro tag b r1 r0 o s hs
  refine congrArg _ ((takeCommand_free hs rfl rfl).trans (withChannel_send fun hb => ?_))
  rw [u16_eq_num]
  by_cases ho : 8 ≤ o.toNat
  · rw [parseOptions_eq_none ho, if_pos (.inr ho)]
    rfl
  by_cases href : num r1 r0 = 0
  · simp only [parseOptions_eq_some ho, href, true_or, if_true, State.refuse_send]
  simp only [parseOptions_eq_some ho, href, ho, or_self, if_false]
  cases hk : (s.chan ⟨b.toNat, hb⟩).custody with
  | idle => rw [withCall_of_idle hk, State.refuse_send]
  | test => rw [withCall_of_test hk, State.refuse_send]
  | call ref opts blocked =>
    rw [withCall_of_call hk]
    dsimp only
    by_cases same : ref = num r1 r0
    · subst same
      rw [if_pos rfl, if_pos rfl, State.answer_send]
    · rw [if_neg same, if_neg same, State.refuse_send]

/-- Settles O40: the C-link's form checks the call, the M-link's that the channel is in use. -/
theorem restartChannelClearsTheSignal : Obligations.RestartChannelClearsTheSignal := by
  refine ⟨fun tag b r1 r0 s hs => ?_, fun tag b s hs => ?_⟩
  · refine congrArg _ ((takeCommand_free hs rfl rfl).trans (withChannel_send fun hb => ?_))
    rw [u16_eq_num]
    by_cases href : num r1 r0 = 0
    · simp only [if_pos href, State.refuse_send]
    simp only [if_neg href]
    cases hk : (s.chan ⟨b.toNat, hb⟩).custody with
    | idle => rw [withCall_of_idle hk, State.refuse_send]
    | test => rw [withCall_of_test hk, State.refuse_send]
    | call ref opts blocked =>
      rw [withCall_of_call hk]
      by_cases same : ref = num r1 r0
      · simp only [if_pos same, State.restartChannel, State.answer_send, Channel.clearSignal_eq_freshSignal]
      · simp only [if_neg same, State.refuse_send]
  · refine congrArg _ ((takeCommand_free hs rfl rfl).trans (withChannel_send fun hb => ?_))
    by_cases idle : (s.chan ⟨b.toNat, hb⟩).custody = .idle
    · simp only [if_pos idle, (Channel.active_eq_false_iff _).mpr idle, Bool.false_eq_true, if_false,
        State.refuse_send]
    · simp only [if_neg idle, (Channel.active_iff _).mpr idle, if_true, State.restartChannel,
        State.answer_send, Channel.clearSignal_eq_freshSignal]

/-- Settles O41: both numbers are checked, then the custody; the rest is `State.assign_eq`. -/
theorem assignAppliesTheGroupsProfile : Obligations.AssignAppliesTheGroupsProfile := by
  intro tag b g s hs
  refine congrArg _ ((takeCommand_free hs rfl rfl).trans
    (withChannel_send fun hb => withNumber_send fun hg => ?_))
  cases hk : (s.chan ⟨b.toNat, hb⟩).custody with
  | call ref o blocked => rfl
  | idle => simp only [State.assign_eq, State.answer_send]
  | test => simp only [State.assign_eq, State.answer_send]

/-- Settles O46: a channel in use with a clear mark gets it set. -/
theorem requestCaptureSetsTheMark : Obligations.RequestCaptureSetsTheMark := by
  intro tag b s hs
  refine congrArg _ ((takeCommand_free hs rfl rfl).trans (withChannel_send fun hb => ?_))
  have may : ((s.chan ⟨b.toNat, hb⟩).active && !(s.chan ⟨b.toNat, hb⟩).capturePending) = true ↔
      ¬((s.chan ⟨b.toNat, hb⟩).custody = .idle ∨ (s.chan ⟨b.toNat, hb⟩).capturePending = true) := by
    simp [Channel.active_iff]
  by_cases refused : (s.chan ⟨b.toNat, hb⟩).custody = .idle ∨
      (s.chan ⟨b.toNat, hb⟩).capturePending = true
  · rw [if_pos refused, if_neg (mt may.mp (not_not_intro refused)), State.refuse_send]
  · rw [if_neg refused, if_pos (may.mpr refused)]
    rfl

/-- Settles O44: the three commands share the checks of R127, `withFlag_send`. -/
theorem flagCommandsAddressByBase : Obligations.FlagCommandsAddressByBase := by
  refine fun l tag d sel s hs => ⟨?_, ?_, ?_⟩
  · refine congrArg _ ((takeCommand_free hs (by cases l <;> rfl) rfl).trans
      (withFlag_send fun f _ _ hset ch => ?_))
    rw [State.answer_send, State.putFlag, hset]
  · refine congrArg _ ((takeCommand_free hs (by cases l <;> rfl) rfl).trans
      (withFlag_send fun f _ _ hset ch => ?_))
    rw [State.answer_send, State.putFlag, hset]
  · refine congrArg _ ((takeCommand_free hs (by cases l <;> rfl) rfl).trans
      (withFlag_send fun f _ hget _ ch => ?_))
    rw [State.answerData_send, hget]
    rfl
end

section
/-! PROOFS. Profiles, groups, schedule entries, slots, the attention mask and DEVICE RESTART: commands with number checks. -/

namespace Sys2Proof.Machine

open Sys2Proof.Claims

/-! ### Profiles (R137 to R144) -/

/-- The number check of HOLD and WRITE PROFILE: BAD_VALUE for profile 0 too (R137, R138). -/
theorem withWritable_send {op : Opcode} {l : Link} {tag : Byte} {s : State} {b : Byte}
    {k : ProfileNo → Reply} {t : b.toNat < 16 → State}
    (h : ∀ hb, b ≠ 0#8 → (k ⟨b.toNat, hb⟩).send l op.code tag = t hb) :
    (withWritable b s k).send l op.code tag =
      if hb : b.toNat < 16 then if b = 0#8 then respond l op tag .badValue [] s else t hb
      else respond l op tag .badValue [] s := by
  refine withNumber_send fun hb => ?_
  by_cases zero : b = 0#8
  · subst zero
    rfl
  · have nonzero : (⟨b.toNat, hb⟩ : ProfileNo) ≠ 0 := fun e => by
      have none : b.toNat = 0 := congrArg Fin.val e
      exact zero (BitVec.eq_of_toNat_eq none)
    rw [if_neg zero, if_neg nonzero, h hb zero]

/-- A profile's fields kept and its state set. -/
theorem State.setProfile_held (s : State) (p : ProfileNo) (held : Bool) :
    s.setProfile p { fields := s.fieldsOf p, held := held } =
      { s with profiles := s.profiles.set p { s.profiles.get p with held := held } } := rfl

/-- A resume opens the profile and applies it to every channel of its number (R144). -/
theorem State.resume_eq (s : State) (p : ProfileNo) :
    ((s.setProfile p { fields := s.fieldsOf p, held := false }).applyWhere p fun c => c.profile == p) =
      { s with
        profiles := s.profiles.set p { s.profiles.get p with held := false }
        channels :=
          s.channels.map fun c =>
            if c.profile = p then applied p (s.profiles.get p).fields c else c } := by
  rw [State.applyWhere_eq, State.setProfile_held]
  simp only [Table.get_set_self, beq_iff_eq]

/-! ### Schedule entries (R172) -/

theorem parseTimeOfDay_eq_some {h m s : Byte} (hh : h.toNat ≤ 23) (hm : m.toNat ≤ 59) (hs : s.toNat ≤ 59) :
    parseTimeOfDay h m s = some { hour := h.toNat, minute := m.toNat, second := s.toNat } :=
  if_pos ((TimeOfDay.valid_iff _).mpr ⟨hh, hm, hs⟩)

theorem inRange_of_parseTimeOfDay {h m s : Byte} {t : TimeOfDay} (e : parseTimeOfDay h m s = some t) :
    h.toNat ≤ 23 ∧ m.toNat ≤ 59 ∧ s.toNat ≤ 59 := by
  by_contra hn
  have none : parseTimeOfDay h m s = none := if_neg (mt (TimeOfDay.valid_iff _).mp hn)
  simp [none] at e

theorem lt_of_parseFin {n : Nat} {b : Byte} {i : Fin n} (e : parseFin n b = some i) : b.toNat < n := by
  by_contra hn
  have none : parseFin n b = none := dif_neg hn
  simp [none] at e

section entry

variable {g sh sm ss eh em es mask p : Byte}

/-- The checks of R172 on an entry's fields. -/
def EntryInRange (g sh sm ss eh em es mask p : Byte) : Prop :=
  g.toNat < 8 ∧ p.toNat < 16 ∧ mask.toNat < 128 ∧ sh.toNat ≤ 23 ∧ sm.toNat ≤ 59 ∧ ss.toNat ≤ 59 ∧
    eh.toNat ≤ 23 ∧ em.toNat ≤ 59 ∧ es.toNat ≤ 59

theorem parseEntry_eq_some (h : EntryInRange g sh sm ss eh em es mask p) :
    parseEntry g sh sm ss eh em es mask p =
      some
        { inUse := true, group := ⟨g.toNat, h.1⟩
          start := { hour := sh.toNat, minute := sm.toNat, second := ss.toNat }
          stop := { hour := eh.toNat, minute := em.toNat, second := es.toNat }
          mask := BitVec.ofNat 7 mask.toNat, profile := ⟨p.toNat, h.2.1⟩ } := by
  obtain ⟨hg, hp, hmask, hsh, hsm, hss, heh, hem, hes⟩ := h
  simp [parseEntry, parseFin, hg, hp, hmask, parseTimeOfDay_eq_some hsh hsm hss,
    parseTimeOfDay_eq_some heh hem hes]

theorem inRange_of_parseEntry {e : Entry} (h : parseEntry g sh sm ss eh em es mask p = some e) :
    EntryInRange g sh sm ss eh em es mask p := by
  simp only [parseEntry, Option.bind_eq_bind, Option.bind_eq_some_iff] at h
  obtain ⟨_, hg, _, hstart, _, hstop, _, hp, hmask⟩ := h
  obtain ⟨hsh, hsm, hss⟩ := inRange_of_parseTimeOfDay hstart
  obtain ⟨heh, hem, hes⟩ := inRange_of_parseTimeOfDay hstop
  refine ⟨lt_of_parseFin hg, lt_of_parseFin hp, ?_, hsh, hsm, hss, heh, hem, hes⟩
  by_contra hn
  rw [if_neg hn] at hmask
  exact absurd hmask (by simp)

theorem parseEntry_eq_none (h : ¬EntryInRange g sh sm ss eh em es mask p) :
    parseEntry g sh sm ss eh em es mask p = none :=
  Option.eq_none_iff_forall_ne_some.mpr fun _ e => h (inRange_of_parseEntry e)

end entry

end Sys2Proof.Machine

open Sys2Proof Sys2Proof.Machine Sys2Proof.Claims

/-- Settles O47: HOLD checks for profile 0 as well; what a resume leaves is `State.resume_eq`. -/
theorem holdAndResumeProfile : Obligations.HoldAndResumeProfile := by
  refine fun tag b s hs => ⟨?_, ?_⟩
  · refine congrArg _ ((takeCommand_free hs rfl rfl).trans (withWritable_send fun hb _ => ?_))
    cases hh : s.heldOf ⟨b.toNat, hb⟩ with
    | true => exact (if_pos hh).symm
    | false => exact (if_neg (ne_true_of_eq_false hh)).symm
  · refine congrArg _ ((takeCommand_free hs rfl rfl).trans (withNumber_send fun hb => ?_))
    by_cases hh : (s.profiles.get ⟨b.toNat, hb⟩).held = true
    · have open' : s.heldOf ⟨b.toNat, hb⟩ = true := hh
      rw [if_pos hh, if_pos open', State.answer_send, State.resume_eq]
    · have open' : ¬s.heldOf ⟨b.toNat, hb⟩ = true := hh
      rw [if_neg hh, if_neg open', State.refuse_send]

/-- Settles O49: two number checks and one write. -/
theorem writeGroupSetsTheDefault : Obligations.WriteGroupSetsTheDefault := by
  intro tag g p s hs
  exact congrArg _ ((takeCommand_free hs rfl rfl).trans (withNumber_withNumber_send fun _ _ => rfl))

/-- Settles O52: the entry's number, then its fields by `parseEntry_eq_some` and `parseEntry_eq_none`. -/
theorem entriesAreWrittenAndErased : Obligations.EntriesAreWrittenAndErased := by
  refine fun tag i g sh sm ss eh em es mask p s hs => ⟨?_, ?_⟩
  · refine congrArg _ ((takeCommand_free hs rfl rfl).trans
      ((withNumber_send fun hi => rfl).trans ?_))
    by_cases hi : i.toNat < 24
    · by_cases fields : EntryInRange g sh sm ss eh em es mask p
      · rw [dif_pos hi, dif_pos ⟨hi, fields⟩, parseEntry_eq_some fields]
        rfl
      · rw [dif_pos hi, dif_neg fun h => fields h.2, parseEntry_eq_none fields]
        rfl
    · rw [dif_neg hi, dif_neg fun h => hi h.1]
  · exact congrArg _ ((takeCommand_free hs rfl rfl).trans (withNumber_send fun _ => rfl))

/-- Settles O53: the number, then the owner of the slot. -/
theorem returnSlotFreesTheSlot : Obligations.ReturnSlotFreesTheSlot := by
  intro l tag b s hs
  refine congrArg _ ((takeCommand_free hs (by cases l <;> rfl) rfl).trans (withNumber_send fun hb => ?_))
  unfold withOwned
  cases hk : s.ring.slots.get ⟨b.toNat, hb⟩ with
  | device => rfl
  | owned owner r =>
    by_cases own : owner = l
    · simp only [if_pos own]
      rfl
    · simp only [if_neg own]
      rfl
end

section
/-! PROOFS. Attention (10.4): when a line is driven, what READ ATTENTION lists and clears, the mask, and DEVICE RESTART. -/

namespace Sys2Proof.Machine

open Sys2Proof.Claims

/-- A link's line is driven by a pending condition whose priority number the mask admits (R210, R213). -/
theorem Conditions.drives_iff (l : Link) (mask : Fin 7) (c : Conditions) :
    c.drives l mask = true ↔ lineOf l mask c := by
  cases l with
  | cLink =>
    simp [Conditions.drives, Conditions.lines, Attention.admitted, lineOf, Conditions.restartedLine,
      Conditions.linkErrorLine, Conditions.faultLine, Conditions.noticeLine, Conditions.recordsLine,
      Option.isSome_iff_ne_none]
  | mLink =>
    simp [Conditions.drives, Conditions.lines, Attention.admitted, lineOf, Conditions.restartedLine,
      Conditions.linkErrorLine, Conditions.faultLine, Conditions.clockLine, Conditions.blockDoneLine,
      Conditions.recordsLine, Option.isSome_iff_ne_none]

/-- The four bytes of a channel set, channel 0 in bit 0 of the last. -/
theorem channelSetBytes_eq (v : BitVec 32) : channelSetBytes v = channelSet v := by
  simp only [channelSetBytes, channelSet, byteOf, List.cons.injEq, and_true]
  refine ⟨?_, ?_, ?_, ?_⟩ <;> apply BitVec.eq_of_toNat_eq <;>
    simp [BitVec.extractLsb'_toNat, Nat.shiftRight_eq_div_pow]

/-- The entries that a list of condition lines gives READ ATTENTION: one for each that is pending. -/
def attentionList (mask : Fin 7) (lines : List Attention) : List (List Byte) :=
  (lines.filter Attention.isPending).map (Attention.bytes mask)

theorem attentionList_cons (mask : Fin 7) (a : Attention) (lines : List Attention) :
    attentionList mask (a :: lines) =
      listed a.isPending mask a.priority a.code a.detail ++ attentionList mask lines := by
  cases h : a.isPending with
  | false => simp [attentionList, listed, h]
  | true =>
    by_cases masked : mask.val < a.priority <;>
      simp [attentionList, listed, h, Attention.bytes, onOff, masked]

@[simp] theorem attentionList_nil (mask : Fin 7) : attentionList mask [] = [] := rfl

theorem Conditions.bytes_eq (l : Link) (mask : Fin 7) (lock : Lock) (clock : ClockState) (c : Conditions) :
    c.bytes l mask lock clock =
      byteOf (attentionList mask (c.lines l lock clock)).length ::
        (attentionList mask (c.lines l lock clock)).flatten := by
  simp only [Conditions.bytes, attentionList, List.length_map, List.flatMap_def]

theorem Lock.code_eq (k : Lock) : k.code = lockByte k := by cases k <;> rfl

theorem ClockState.code_eq (k : ClockState) : k.code = clockByte k := by cases k <;> rfl

theorem LinkErrorKind.code_eq (k : LinkErrorKind) : k.code = errorByte k := by cases k <;> rfl

theorem listed_restarted (mask : Fin 7) (c : Conditions) :
    listed c.restartedLine.isPending mask 1 0x01 c.restartedLine.detail =
      match c.restarted with
      | some k => listed true mask 1 0x01 [lockByte k, 0, 0, 0]
      | none => [] := by
  unfold Conditions.restartedLine
  cases c.restarted with
  | none => rfl
  | some k => simp only [Lock.code_eq]; rfl

theorem listed_linkError (mask : Fin 7) (c : Conditions) :
    listed c.linkErrorLine.isPending mask 2 0x02 c.linkErrorLine.detail =
      match c.linkError with
      | some (k, n) => listed true mask 2 0x02 [errorByte k, low n, 0, 0]
      | none => [] := by
  unfold Conditions.linkErrorLine
  cases c.linkError with
  | none => rfl
  | some e => simp only [LinkErrorKind.code_eq]; rfl

/-- The entries of READ ATTENTION are those of the condition lines, in R210's order. -/
theorem attentionList_lines (l : Link) (mask : Fin 7) (lock : Lock) (clock : ClockState) (c : Conditions) :
    attentionList mask (c.lines l lock clock) = attentionEntries l mask lock clock c := by
  have fault : (c.faultLine lock).detail = [lockByte lock, 0, 0, 0] := by
    simp only [Conditions.faultLine, Lock.code_eq]
  have alert : (c.clockLine clock).detail = [clockByte clock, 0, 0, 0] := by
    simp only [Conditions.clockLine, ClockState.code_eq]
  have notice : c.noticeLine.detail = channelSet c.custodyNotice := channelSetBytes_eq _
  have done : c.blockDoneLine.detail = channelSet c.blockDone := channelSetBytes_eq _
  have first := listed_restarted mask c
  have second := listed_linkError mask c
  have third := congrArg (listed c.highwayFault mask 3 0x03) fault
  unfold attentionEntries Conditions.lines
  cases l with
  | cLink =>
    simp only [attentionList_cons, attentionList_nil, List.append_nil, List.append_assoc]
    exact congrArg₂ (· ++ ·) first (congrArg₂ (· ++ ·) second (congrArg₂ (· ++ ·) third
      (congrArg (· ++ _) (congrArg (listed _ mask 4 0x04) notice))))
  | mLink =>
    simp only [attentionList_cons, attentionList_nil, List.append_nil, List.append_assoc]
    exact congrArg₂ (· ++ ·) first (congrArg₂ (· ++ ·) second (congrArg₂ (· ++ ·) third
      (congrArg₂ (· ++ ·) (congrArg (listed _ mask 4 0x05) alert)
        (congrArg (· ++ _) (congrArg (listed _ mask 5 0x06) done)))))

/-- What a read clears, condition by condition (R214 to R218). -/
theorem Conditions.afterRead_eq (l : Link) (mask : Fin 7) (lock : Lock) :
    Conditions.afterRead l mask lock = attentionCleared l mask lock := by
  funext c
  simp only [Conditions.afterRead, attentionCleared, Conditions.mk.injEq, and_true, true_and]
  refine ⟨?_, ?_, ?_, ?_, ?_⟩
  · simp only [← not_le, ite_not]
  · simp only [← not_le, ite_not]
  · obtain masked | read := Nat.lt_or_ge mask.val 3
    · simp [masked, not_le.mpr masked]
    · simp [read, not_lt.mpr read]
  · by_cases read : 4 ≤ mask.val <;> cases l <;> simp [read]
  · by_cases read : 5 ≤ mask.val <;> cases l <;> simp [read]

end Sys2Proof.Machine

open Sys2Proof Sys2Proof.Machine Sys2Proof.Claims

/-- Settles O33: the lines of R210 for each link, one by one. -/
theorem lineFollowsAdmittedConditions : Obligations.LineFollowsAdmittedConditions :=
  Conditions.drives_iff

/-- Settles O34: the list by `attentionList_lines`, the clears by `Conditions.afterRead_eq`. -/
theorem readAttentionListsAndClears : Obligations.ReadAttentionListsAndClears := by
  intro l tag s hs
  refine congrArg _ ((takeCommand_free hs (by cases l <;> rfl) rfl).trans ?_)
  rw [readAttention, Conditions.bytes_eq, attentionList_lines, Conditions.afterRead_eq]
  rfl

/-- Settles O35: the mask by its number check, its line by `Conditions.drives_iff`; DEVICE RESTART by its form. -/
theorem maskAndRestartCommands : Obligations.MaskAndRestartCommands := by
  refine ⟨fun l tag b s hs => ⟨fun large => ?_, fun mask hm => ?_⟩, fun tag s hs => ?_⟩
  · refine congrArg _ ((takeCommand_free hs (by cases l <;> rfl) rfl).trans
      ((withNumber_send fun _ => rfl).trans ?_))
    exact dif_neg (by omega)
  · refine ⟨(s.link l).conds.drives l mask, Conditions.drives_iff l mask _, ?_⟩
    refine congrArg _ ((takeCommand_free hs (by cases l <;> rfl) rfl).trans
      ((withNumber_send fun _ => rfl).trans ?_))
    have hb : b.toNat < 7 := hm ▸ mask.isLt
    obtain rfl : mask = ⟨b.toNat, hb⟩ := Fin.ext hm.symm
    exact dif_pos hb
  · exact congrArg _ (takeCommand_free hs rfl rfl)
end

section
/-! PROOFS. Receivers and frames (10.2, 11.1): how a receiver moves, how a complete frame is judged, and that the frame of a
command, byte by byte or whole, is that command. -/

namespace Sys2Proof.Machine

open Sys2Proof.Claims

/-! ### The catalogue's codes (11.2) -/

@[simp] theorem ofCode_code (op : Opcode) : Opcode.ofCode op.code = some op := by cases op <;> rfl

/-- A CODE that names a command is that command's. -/
theorem code_of_ofCode {c : Byte} {op : Opcode} (h : Opcode.ofCode c = some op) : op.code = c := by
  unfold Opcode.ofCode at h
  split at h
  case h_35 => exact absurd h (by simp)
  all_goals
    rename_i value
    cases h
    exact BitVec.eq_of_toNat_eq value.symm

@[simp] theorem commandOf_code (op : Opcode) (l : Link) (tag : Byte) (ps : List Byte) :
    commandOf l op.code tag ps = op.instr l tag ps := by
  simp [commandOf]

/-- A frame that is taken does what the command it names does (R206). -/
theorem takeFrame_eq (l : Link) (code tag : Byte) (ps : List Byte) (s : State) :
    takeFrame l code tag ps s = exec (commandOf l code tag ps) s := by
  unfold takeFrame commandOf
  cases Opcode.ofCode code with
  | some op => exact Effect.runOpcode_eq op l tag ps s
  | none => rfl

/-- A well-formed command is the one that its link, CODE, TAG and parameters name, and its parameters fit in a frame. -/
theorem eq_commandOf_of_command {i : Instr} (hw : i.WellFormed = true) {l : Link} {code tag : Byte}
    {ps : List Byte} (h : i.command = some (l, code, tag, ps)) :
    i = commandOf l code tag ps ∧ ps.length ≤ 58 := by
  cases i with
  | unknownCommand =>
    cases h
    simp only [Instr.WellFormed, Bool.and_eq_true, Option.isNone_iff_eq_none] at hw
    exact ⟨by simp [commandOf, hw.1], of_decide_eq_true hw.2⟩
  | resetAssert | resetRelease | fsyncPulse | pulseTimeout | bclkStopped | expectedPosition | frameEvent
  | blockEnd | secondTick | receiveByte | gapTimerExpiry | responseSent | restartInstant => cases h
  | _ =>
    cases h
    exact ⟨rfl, of_decide_eq_true hw⟩

/-! ### The check and the parts of a frame (R204, 11.1) -/

theorem append_eq_iff (hi lo : Byte) (v : BitVec 16) :
    hi ++ lo = v ↔ hi = (v >>> 8).truncate 8 ∧ lo = v.truncate 8 := by
  have sum : (hi ++ lo).toNat = hi.toNat * 256 + lo.toNat := fieldValue_toNat hi lo
  have := hi.isLt
  have := lo.isLt
  have := v.isLt
  simp only [← BitVec.toNat_inj, sum, BitVec.truncate_eq_setWidth, BitVec.toNat_setWidth, BitVec.toNat_ushiftRight,
    Nat.shiftRight_eq_div_pow]
  omega

/-- The two check bytes are the register, high byte first (R204). -/
theorem checkBytes_eq (bytes : List Byte) : ∃ hi lo : Byte, checkBytes bytes = [hi, lo] ∧ hi ++ lo = crc bytes :=
  ⟨_, _, rfl, (append_eq_iff _ _ _).mpr ⟨rfl, rfl⟩⟩

section frame

variable {b0 len code tag hi lo : Byte} {body ps : List Byte}

theorem frameCheckOk_iff (h : len.toNat = body.length) :
    frameCheckOk (b0 :: len :: (body ++ [hi, lo])) = true ↔ hi ++ lo = crc (len :: body) := by
  have check : frameCheckOk (b0 :: len :: (body ++ [hi, lo])) = ([hi, lo] == checkBytes (len :: body)) := by
    simp only [frameCheckOk, h, List.drop_left, List.take_left]
  rw [check, append_eq_iff, beq_iff_eq, checkBytes]
  simp

theorem frameComplete_iff {rest : List Byte} :
    frameComplete (b0 :: len :: rest) = true ↔ rest.length = len.toNat + 2 := by
  simp [frameComplete]

theorem frameFields_eq (h : len.toNat = ps.length + 2) :
    frameFields (b0 :: len :: (code :: tag :: ps ++ [hi, lo])) = some (code, tag, ps) := by
  simp [frameFields, h]

end frame

/-- LEN of the frame of a command whose parameters fit. -/
theorem len_toNat {n : Nat} (h : n ≤ 58) : (BitVec.ofNat 8 (n + 2)).toNat = n + 2 := by
  rw [BitVec.toNat_ofNat]
  omega

/-- A frame that holds a command's CODE, TAG and parameters decodes to that command. -/
theorem decodeFrame_frameOf (l : Link) (code tag : Byte) {ps : List Byte} (h : ps.length ≤ 58) :
    decodeFrame l (frameOf (code :: tag :: ps)) = some (commandOf l code tag ps) := by
  have len := len_toNat h
  obtain ⟨hi, lo, check, register⟩ := checkBytes_eq (BitVec.ofNat 8 (ps.length + 2) :: code :: tag :: ps)
  have whole : frameOf (code :: tag :: ps) =
      startByte :: BitVec.ofNat 8 (ps.length + 2) :: (code :: tag :: ps ++ [hi, lo]) :=
    congrArg (startByte :: BitVec.ofNat 8 (ps.length + 2) :: (code :: tag :: ps) ++ ·) check
  have complete : frameComplete (frameOf (code :: tag :: ps)) = true := by
    rw [whole, frameComplete_iff, len]
    simp
  have ok : frameCheckOk (frameOf (code :: tag :: ps)) = true := by
    rw [whole]
    exact (frameCheckOk_iff (by rw [len]; rfl)).mpr register
  have fields : frameFields (frameOf (code :: tag :: ps)) = some (code, tag, ps) := by
    rw [whole]
    exact frameFields_eq len
  have least : 2 ≤ (BitVec.ofNat 8 (ps.length + 2)).toNat := by omega
  have most : (BitVec.ofNat 8 (ps.length + 2)).toNat ≤ 60 := by omega
  refine (if_pos ⟨rfl, least, most, complete, ok⟩).trans ?_
  rw [fields]
  rfl

/-! ### The receiver (R202, R203) -/

theorem raiseLinkError_eq (k : LinkErrorKind) : Conditions.raiseLinkError k = errorRaised k := by
  funext c
  unfold Conditions.raiseLinkError errorRaised
  cases c.linkError <;> rfl

theorem State.linkError_eq (s : State) (l : Link) (k : LinkErrorKind) : s.linkError l k = raised l k s := by
  rw [State.linkError, raiseLinkError_eq]
  rfl

theorem State.setRx_eq (s : State) (l : Link) (rx : Receiver) : s.setRx l rx = received l rx s := rfl

@[simp] theorem link_received (l : Link) (rx : Receiver) (s : State) :
    (received l rx s).link l = { s.link l with rx := rx } :=
  State.link_setLink_self _ _ _

@[simp] theorem received_received (l : Link) (r1 r2 : Receiver) (s : State) :
    received l r2 (received l r1 s) = received l r2 s := by
  simp [received, State.link_setLink_self]

theorem received_self {l : Link} {rx : Receiver} {s : State} (h : (s.link l).rx = rx) : received l rx s = s := by
  subst h
  exact State.setLink_link s l

section receiver

variable {l : Link} {s : State} {b b0 len : Byte} {rest : List Byte}

/-- A byte in a frame in progress joins it (R202). -/
theorem exec_receiveByte_receiving (hr : s.resetAsserted = false) {bytes : List Byte}
    (hrx : (s.link l).rx = .receiving bytes) :
    exec (.receiveByte l b) s = extendFrame l (bytes ++ [b]) s := by
  simp [exec, execReceiveByte, hr, hrx]

/-- LEN decides whether a frame goes on (R202). -/
theorem extendFrame_len :
    extendFrame l [b0, b] s =
      .next
        (if 2 ≤ b.toNat ∧ b.toNat ≤ 60 then received l (.receiving [b0, b]) s
        else raised l .badLength (received l .hunt s)) := by
  unfold extendFrame
  dsimp only
  by_cases bad : b.toNat < 2 ∨ 60 < b.toNat
  · rw [if_pos bad, if_neg (by omega), State.linkError_eq]
    rfl
  · rw [if_neg bad, if_pos (by omega)]
    rfl

/-- A byte after LEN completes the frame, or it goes on. -/
theorem extendFrame_body :
    extendFrame l (b0 :: len :: (rest ++ [b])) s =
      if frameComplete (b0 :: len :: (rest ++ [b])) then
        judgeFrame l (b0 :: len :: (rest ++ [b])) (received l .settle s)
      else .next (received l (.receiving (b0 :: len :: (rest ++ [b]))) s) := by
  cases rest <;> rfl

/-- A byte after LEN that does not complete the frame (R202). -/
theorem exec_receiveByte_body (hr : s.resetAsserted = false)
    (hrx : (s.link l).rx = .receiving (b0 :: len :: rest)) (hlen : rest.length + 3 < len.toNat + 4) :
    exec (.receiveByte l b) s = .next (received l (.receiving (b0 :: len :: (rest ++ [b]))) s) := by
  rw [exec_receiveByte_receiving hr hrx]
  refine extendFrame_body.trans (if_neg ?_)
  rw [frameComplete_iff, List.length_append, List.length_singleton]
  omega

end receiver

/-! ### A complete frame (R204 to R206) -/

section complete

variable {l : Link} {s : State} {b0 len code tag hi lo : Byte} {ps : List Byte}

/-- The byte that completes a frame takes the receiver to SETTLE, and the frame is judged. -/
theorem exec_receiveByte_complete (hr : s.resetAsserted = false)
    (hrx : (s.link l).rx = .receiving (b0 :: len :: code :: tag :: ps ++ [hi]))
    (hlen : len.toNat = ps.length + 2) :
    exec (.receiveByte l lo) s =
      judgeFrame l (b0 :: len :: (code :: tag :: ps ++ [hi, lo])) (received l .settle s) := by
  have joined : b0 :: len :: code :: tag :: ps ++ [hi] ++ [lo] =
      b0 :: len :: ((code :: tag :: ps ++ [hi]) ++ [lo]) := by simp
  have whole : (code :: tag :: ps ++ [hi]) ++ [lo] = code :: tag :: ps ++ [hi, lo] := by simp
  rw [exec_receiveByte_receiving hr hrx, joined]
  refine extendFrame_body.trans ((if_pos ?_).trans (by rw [whole]))
  rw [frameComplete_iff, hlen]
  simp

theorem judgeFrame_busy {bytes : List Byte} (hb : (s.link l).busy = true) :
    judgeFrame l bytes s = .next (raised l .overrun s) := by
  rw [judgeFrame, if_pos hb, State.linkError_eq]

theorem judgeFrame_badCheck {bytes : List Byte} (hb : (s.link l).busy = false)
    (hc : frameCheckOk bytes = false) : judgeFrame l bytes s = .next (raised l .badCheck s) := by
  rw [judgeFrame, if_neg (ne_true_of_eq_false hb), if_pos hc, State.linkError_eq]

theorem judgeFrame_taken (hb : (s.link l).busy = false) (hlen : len.toNat = ps.length + 2)
    (hc : hi ++ lo = crc (len :: code :: tag :: ps)) :
    judgeFrame l (b0 :: len :: (code :: tag :: ps ++ [hi, lo])) s = exec (commandOf l code tag ps) s := by
  have ok : frameCheckOk (b0 :: len :: (code :: tag :: ps ++ [hi, lo])) = true :=
    (frameCheckOk_iff hlen).mpr hc
  rw [judgeFrame, if_neg (ne_true_of_eq_false hb), if_neg (by rw [ok]; decide), frameFields_eq hlen]
  exact takeFrame_eq ..

end complete

/-! ### The bytes of a frame, one after the other -/

section arrive

variable {l : Link} {s : State}

theorem arrive_cons {b : Byte} {bs : List Byte} {t : State} (h : exec (.receiveByte l b) s = .next t) :
    arrive l (b :: bs) s = arrive l bs t := by
  simp only [arrive, h]

theorem arrive_singleton (b : Byte) : arrive l [b] s = exec (.receiveByte l b) s := by
  rw [arrive]
  cases exec (.receiveByte l b) s <;> rfl

/-- Bytes after LEN that do not complete the frame are kept in it. -/
theorem arrive_body {b0 len : Byte} {rest : List Byte} (more tail : List Byte)
    (hr : s.resetAsserted = false) (hrx : (s.link l).rx = .receiving (b0 :: len :: rest))
    (hlen : rest.length + more.length < len.toNat + 2) :
    arrive l (more ++ tail) s = arrive l tail (received l (.receiving (b0 :: len :: (rest ++ more))) s) := by
  induction more generalizing rest s with
  | nil => rw [List.append_nil, received_self hrx, List.nil_append]
  | cons b bs ih =>
    rw [List.length_cons] at hlen
    have joined := ih (s := received l (.receiving (b0 :: len :: (rest ++ [b]))) s) (rest := rest ++ [b]) hr
      (by rw [link_received]) (by simp; omega)
    rw [List.cons_append, arrive_cons (exec_receiveByte_body hr hrx (by omega)), joined, received_received]
    simp

/-- The frame of a command, arriving on a READY link, is judged at its last byte with the receiver in SETTLE. -/
theorem arrive_frame (code tag : Byte) {ps : List Byte} (hps : ps.length ≤ 58) (hr : s.resetAsserted = false)
    (hrx : (s.link l).rx = .ready) (hb : (s.link l).busy = false) :
    arrive l (frameOf (code :: tag :: ps)) s = exec (commandOf l code tag ps) (received l .settle s) := by
  have hlen := len_toNat hps
  set len : Byte := BitVec.ofNat 8 (ps.length + 2) with len_def
  obtain ⟨hi, lo, check, register⟩ := checkBytes_eq (len :: code :: tag :: ps)
  have whole : frameOf (code :: tag :: ps) =
      startByte :: len :: ((code :: tag :: ps ++ [hi]) ++ [lo]) := by
    refine (congrArg (startByte :: len :: (code :: tag :: ps) ++ ·) check).trans ?_
    simp
  have start : exec (.receiveByte l startByte) s = .next (received l (.receiving [startByte]) s) := by
    simp [exec, execReceiveByte, hr, hrx, State.setRx_eq]
  have reset (rx : Receiver) : (received l rx s).resetAsserted = false := hr
  have second : exec (.receiveByte l len) (received l (.receiving [startByte]) s) =
      .next (received l (.receiving [startByte, len]) s) := by
    rw [exec_receiveByte_receiving (bytes := [startByte]) (reset _) (by rw [link_received])]
    exact extendFrame_len.trans (by rw [if_pos (by omega), received_received])
  rw [whole, arrive_cons start, arrive_cons second,
    arrive_body (rest := []) _ _ (reset _) (by rw [link_received]) (by simp [hlen]), received_received,
    arrive_singleton, exec_receiveByte_complete (code := code) (tag := tag) (ps := ps) (reset _)
      (by rw [link_received]; rfl) hlen, received_received,
    judgeFrame_taken (by rw [link_received]; exact hb) hlen register]

end arrive

end Sys2Proof.Machine

open Sys2Proof Sys2Proof.Machine Sys2Proof.Claims

/-- Settles O27: the four states of the receiver at a byte, and at 2 ms of silence. -/
theorem receiverMoves : Obligations.ReceiverMoves := by
  refine fun s l b hr => ⟨fun hrx => ?_, fun hrx => ?_, fun hrx => ?_, fun b0 hrx => ?_,
    fun b0 len rest hrx hlen => exec_receiveByte_body hr hrx hlen, fun hrx => ?_, fun bytes hrx => ?_⟩
  · simp only [exec, execReceiveByte, hr, hrx, Bool.false_eq_true, if_false]
  · simp only [exec, execReceiveByte, hr, hrx, Bool.false_eq_true, if_false, State.linkError_eq, State.setRx_eq]
  · simp only [exec, execReceiveByte, hr, hrx, Bool.false_eq_true, if_false, State.linkError_eq,
      State.setRx_eq, startByte]
    split <;> rfl
  · rw [exec_receiveByte_receiving hr hrx]
    exact extendFrame_len
  · have out (h : (s.link l).rx = .ready) : s = received l .ready s := (received_self h).symm
    obtain hrx | hrx | hrx := hrx
    · simp [exec, execGapTimerExpiry, hr, hrx, State.setRx_eq]
    · simp [exec, execGapTimerExpiry, hr, hrx, State.setRx_eq]
    · simpa [exec, execGapTimerExpiry, hr, hrx] using out hrx
  · simp [exec, execGapTimerExpiry, hr, hrx, State.setRx_eq, State.linkError_eq]

/-- Settles O28: the frame is judged in SETTLE, by the busy mark and then by its check. -/
theorem completeFrameIsJudged : Obligations.CompleteFrameIsJudged := by
  intro s l b0 len code tag hi lo ps hr hrx hlen
  have busy : ((received l .settle s).link l).busy = (s.link l).busy := by rw [link_received]
  rw [exec_receiveByte_complete hr hrx hlen]
  refine ⟨fun hb => judgeFrame_busy (busy.trans hb), fun hb hc => judgeFrame_badCheck (busy.trans hb) ?_,
    fun hb hc => judgeFrame_taken (busy.trans hb) hlen hc⟩
  exact eq_false_of_ne_true (mt (frameCheckOk_iff hlen).mp hc)

/-- Settles O29: the command's frame by `arrive_frame`. -/
theorem frameOnTheWireRunsItsCommand : Obligations.FrameOnTheWireRunsItsCommand := by
  intro i l bytes s hw he hr hrx hb
  obtain ⟨⟨l', code, tag, ps⟩, hc, e⟩ := Option.map_eq_some_iff.mp he
  obtain ⟨rfl, rfl⟩ := Prod.mk.inj e
  obtain ⟨rfl, hps⟩ := eq_commandOf_of_command hw hc
  exact arrive_frame code tag hps hr hrx hb

/-- Settles O30: the command's frame by `decodeFrame_frameOf`. -/
theorem framesDecodeToTheirCommand : Obligations.FramesDecodeToTheirCommand := by
  intro i hw hne
  obtain ⟨⟨l, code, tag, ps⟩, hc⟩ := Option.ne_none_iff_exists'.mp hne
  obtain ⟨e, hps⟩ := eq_commandOf_of_command hw hc
  refine ⟨l, frameOf (code :: tag :: ps), by simp [encodeFrame, hc], ?_⟩
  rw [decodeFrame_frameOf l code tag hps, ← e]
end

section
/-! PROOFS. What taking a command answers (10.3): the catalogue's checks in order, and a reply that is a refusal or is carried
out. -/

namespace Sys2Proof.Machine

open Sys2Proof.Claims

/-! ### The owning block of each command -/

/-- The owning block of a command of the catalogue. -/
def blockOf (l : Link) (ps : List Byte) : Opcode → State → Reply
  | .readAttention => Sys2Proof.Machine.readAttention l ps
  | .setAttentionMask => Sys2Proof.Machine.setAttentionMask l ps
  | .deviceRestart => Sys2Proof.Machine.deviceRestart ps
  | .seize => Sys2Proof.Machine.seize ps
  | .clear => Sys2Proof.Machine.clearCall ps
  | .modifyCall => Sys2Proof.Machine.modifyCall ps
  | .block => Sys2Proof.Machine.blockChannel ps
  | .unblock => Sys2Proof.Machine.unblockChannel ps
  | .forceRelease => Sys2Proof.Machine.forceRelease ps
  | .restartChannel => Sys2Proof.Machine.restartChannel l ps
  | .readChannel => Sys2Proof.Machine.readChannel ps
  | .assignChannel => Sys2Proof.Machine.assignChannel ps
  | .setBase => Sys2Proof.Machine.setBase l ps
  | .flagSet => Sys2Proof.Machine.flagSet l ps
  | .flagClear => Sys2Proof.Machine.flagClear l ps
  | .flagTest => Sys2Proof.Machine.flagTest l ps
  | .fieldWrite => Sys2Proof.Machine.fieldWrite l ps
  | .fieldRead => Sys2Proof.Machine.fieldRead l ps
  | .holdProfile => Sys2Proof.Machine.holdProfile ps
  | .writeProfile => Sys2Proof.Machine.writeProfile ps
  | .resumeProfile => Sys2Proof.Machine.resumeProfile ps
  | .readProfile => Sys2Proof.Machine.readProfile ps
  | .writeGroup => Sys2Proof.Machine.writeGroup ps
  | .readGroup => Sys2Proof.Machine.readGroup ps
  | .overridePush => Sys2Proof.Machine.overridePush ps
  | .overridePop => Sys2Proof.Machine.overridePop ps
  | .timeSet => Sys2Proof.Machine.timeSet ps
  | .timeRead => Sys2Proof.Machine.timeRead ps
  | .writeEntry => Sys2Proof.Machine.writeEntry ps
  | .eraseEntry => Sys2Proof.Machine.eraseEntry ps
  | .readEntry => Sys2Proof.Machine.readEntry ps
  | .readSlot => Sys2Proof.Machine.readSlot l ps
  | .returnSlot => Sys2Proof.Machine.returnSlot l ps
  | .requestCapture => Sys2Proof.Machine.requestCapture ps

/-- A command row of the table is its frame taken, with its owning block (assumption 2). -/
theorem exec_instr (op : Opcode) (l : Link) (tag : Byte) (ps : List Byte) (s : State) :
    exec (op.instr l tag ps) s = .next (takeCommand op l tag ps (blockOf l ps op) s) := by
  cases op <;> rfl

/-! ### A reply is a refusal, or the command is carried out -/

/-- A reply to a command in state `s`: OK, ACCEPTED, or nothing changed and no data (R206, R208). -/
def Reply.Plain (s : State) (r : Reply) : Prop :=
  r.result = .ok ∨ r.result = .accepted ∨ (r.state = s ∧ r.data = [])

section plain

variable {s : State}

theorem Reply.plain_refuse (r : Result) : (s.refuse r).Plain s := .inr (.inr ⟨rfl, rfl⟩)

theorem Reply.plain_answer (t : State) : t.answer.Plain s := .inl rfl

theorem Reply.plain_answerData (t : State) (data : List Byte) : (t.answerData data).Plain s := .inl rfl

theorem Reply.plain_withChannel {b : Byte} {k : ChannelNo → Reply} (h : ∀ ch, (k ch).Plain s) :
    (withChannel b s k).Plain s := by
  unfold withChannel
  split
  · exact h _
  · exact plain_refuse _

theorem Reply.plain_withNumber {n : Nat} {b : Byte} {k : Fin n → Reply} (h : ∀ i, (k i).Plain s) :
    (withNumber n b s k).Plain s := by
  unfold withNumber
  split
  · exact h _
  · exact plain_refuse _

theorem Reply.plain_withWritable {b : Byte} {k : ProfileNo → Reply} (h : ∀ p, (k p).Plain s) :
    (withWritable b s k).Plain s :=
  plain_withNumber fun p => by
    split
    · exact plain_refuse _
    · exact h p

theorem Reply.plain_withCall {ch : ChannelNo} {ref : Nat} {k : CallOptions → Bool → Reply}
    (h : ∀ o b, (k o b).Plain s) : (withCall ch ref s k).Plain s := by
  unfold withCall
  split
  · split
    · exact h _ _
    · exact plain_refuse _
  · exact plain_refuse _
  · exact plain_refuse _

theorem Reply.plain_withFlag {l : Link} {d f : Byte} {k : ChannelNo → FlagName → Reply}
    (h : ∀ ch flag, (k ch flag).Plain s) : (withFlag l d f s k).Plain s := by
  unfold withFlag
  split
  · exact plain_refuse _
  split
  · exact plain_refuse _
  split
  · exact plain_refuse _
  · exact h _ _

theorem Reply.plain_withField {l : Link} {d n f : Byte} {k : ChannelNo → Nat → FlagName → Reply}
    (h : ∀ ch m flag, (k ch m flag).Plain s) : (withField l d n f s k).Plain s := by
  unfold withField
  split
  · exact plain_refuse _
  split
  · exact plain_refuse _
  split
  · exact plain_refuse _
  split
  · exact plain_refuse _
  · exact h _ _ _

theorem Reply.plain_withOwned {l : Link} {i : SlotNo} {k : Record → Reply} (h : ∀ r, (k r).Plain s) :
    (withOwned l i s k).Plain s := by
  unfold withOwned
  split
  · exact plain_refuse _
  split
  · exact h _
  · exact plain_refuse _

/-- A reply by cases on a condition. -/
theorem Reply.plain_ite {p : Prop} [Decidable p] {a b : Reply} (ha : a.Plain s) (hb : b.Plain s) :
    (if p then a else b).Plain s := by
  split
  · exact ha
  · exact hb

end plain

open Reply in
/-- Every owning block answers a plain reply. -/
theorem blockOf_plain (l : Link) (ps : List Byte) (op : Opcode) (s : State) : (blockOf l ps op s).Plain s := by
  have refuse (r : Result) : (s.refuse r).Plain s := plain_refuse r
  cases op with
  | readAttention =>
    unfold blockOf readAttention
    split
    · exact plain_answerData _ _
    · exact refuse _
  | setAttentionMask =>
    unfold blockOf setAttentionMask
    split
    · exact plain_withNumber fun _ => plain_answer _
    · exact refuse _
  | deviceRestart =>
    unfold blockOf deviceRestart
    split
    · exact plain_answer _
    · exact refuse _
  | seize =>
    unfold blockOf seize
    split
    · refine plain_withChannel fun ch => ?_
      split
      · exact refuse _
      refine plain_ite (refuse _) ?_
      split
      · exact refuse _
      · exact refuse _
      · exact plain_ite (refuse _) (plain_answer _)
    · exact refuse _
  | clear =>
    unfold blockOf clearCall
    split
    · exact plain_withChannel fun _ => plain_ite (refuse _) (plain_withCall fun _ _ => plain_answer _)
    · exact refuse _
  | modifyCall =>
    unfold blockOf modifyCall
    split
    · refine plain_withChannel fun ch => ?_
      split
      · exact refuse _
      · exact plain_ite (refuse _) (plain_withCall fun _ _ => plain_answer _)
    · exact refuse _
  | block =>
    unfold blockOf blockChannel
    split
    · refine plain_withChannel fun ch => ?_
      split
      · exact plain_answer _
      · exact .inr (.inl rfl)
      · exact refuse _
      · exact refuse _
    · exact refuse _
  | unblock =>
    unfold blockOf unblockChannel
    split
    · refine plain_withChannel fun ch => ?_
      split
      · exact refuse _
      · exact plain_answer _
      · exact refuse _
      · exact plain_answer _
    · exact refuse _
  | forceRelease =>
    unfold blockOf forceRelease
    split
    · refine plain_withChannel fun ch => ?_
      split
      · exact plain_answer _
      · exact refuse _
      · exact refuse _
    · exact refuse _
  | restartChannel =>
    unfold blockOf restartChannel
    split
    · exact plain_withChannel fun _ =>
        plain_ite (refuse _) (plain_withCall fun _ _ => plain_answer _)
    · exact plain_withChannel fun _ => plain_ite (plain_answer _) (refuse _)
    · exact refuse _
  | readChannel =>
    unfold blockOf readChannel
    split
    · exact plain_withChannel fun _ => plain_answerData _ _
    · exact refuse _
  | assignChannel =>
    unfold blockOf assignChannel
    split
    · refine plain_withChannel fun ch => plain_withNumber fun g => ?_
      split
      · exact refuse _
      · exact plain_answer _
      · exact plain_answer _
    · exact refuse _
  | setBase =>
    unfold blockOf setBase
    split
    · exact plain_withChannel fun _ => plain_answer _
    · exact refuse _
  | flagSet =>
    unfold blockOf flagSet
    split
    · exact plain_withFlag fun _ _ => plain_answer _
    · exact refuse _
  | flagClear =>
    unfold blockOf flagClear
    split
    · exact plain_withFlag fun _ _ => plain_answer _
    · exact refuse _
  | flagTest =>
    unfold blockOf flagTest
    split
    · exact plain_withFlag fun _ _ => plain_answerData _ _
    · exact refuse _
  | fieldWrite =>
    unfold blockOf fieldWrite
    split
    · exact plain_withField fun _ _ _ => plain_ite (plain_answer _) (refuse _)
    · exact refuse _
  | fieldRead =>
    unfold blockOf fieldRead
    split
    · exact plain_withField fun _ _ _ => plain_answerData _ _
    · exact refuse _
  | holdProfile =>
    unfold blockOf holdProfile
    split
    · exact plain_withWritable fun _ => plain_ite (refuse _) (plain_answer _)
    · exact refuse _
  | writeProfile =>
    unfold blockOf writeProfile
    split
    · refine plain_withWritable fun p => ?_
      split
      · exact refuse _
      · exact plain_ite (plain_answer _) (refuse _)
    · exact refuse _
  | resumeProfile =>
    unfold blockOf resumeProfile
    split
    · exact plain_withNumber fun _ => plain_ite (plain_answer _) (refuse _)
    · exact refuse _
  | readProfile =>
    unfold blockOf readProfile
    split
    · exact plain_withNumber fun _ => plain_answerData _ _
    · exact refuse _
  | writeGroup =>
    unfold blockOf writeGroup
    split
    · exact plain_withNumber fun _ => plain_withNumber fun _ => plain_answer _
    · exact refuse _
  | readGroup =>
    unfold blockOf readGroup
    split
    · exact plain_withNumber fun _ => plain_answerData _ _
    · exact refuse _
  | overridePush =>
    unfold blockOf overridePush
    split
    · exact plain_withNumber fun _ => plain_withNumber fun _ => plain_ite (refuse _) (plain_answer _)
    · exact refuse _
  | overridePop =>
    unfold blockOf overridePop
    split
    · exact plain_withNumber fun _ => plain_ite (refuse _) (plain_answer _)
    · exact refuse _
  | timeSet =>
    unfold blockOf timeSet
    split
    · split
      · exact refuse _
      · exact plain_answer _
    · exact refuse _
  | timeRead =>
    unfold blockOf timeRead
    split
    · exact plain_answerData _ _
    · exact refuse _
  | writeEntry =>
    unfold blockOf writeEntry
    split
    · refine plain_withNumber fun i => ?_
      split
      · exact refuse _
      · exact plain_answer _
    · exact refuse _
  | eraseEntry =>
    unfold blockOf eraseEntry
    split
    · exact plain_withNumber fun _ => plain_answer _
    · exact refuse _
  | readEntry =>
    unfold blockOf readEntry
    split
    · exact plain_withNumber fun _ => plain_answerData _ _
    · exact refuse _
  | readSlot =>
    unfold blockOf readSlot
    split
    · exact plain_withNumber fun _ => plain_withOwned fun _ => plain_answerData _ _
    · exact refuse _
  | returnSlot =>
    unfold blockOf returnSlot
    split
    · exact plain_withNumber fun _ => plain_withOwned fun _ => plain_answer _
    · exact refuse _
  | requestCapture =>
    unfold blockOf requestCapture
    split
    · exact plain_withChannel fun _ => plain_ite (.inr (.inl rfl)) (refuse _)
    · exact refuse _

/-! ### The checks before the owning block (R205, R208) -/

/-- What a row of the catalogue says of its command on each link. -/
theorem catalogue_row (l : Link) : ∀ row ∈ catalogue, row.op.code = row.code ∧
    (row.onLink l = none → row.op.admitted l = false) ∧
    ∀ n ∈ row.onLink l, row.op.admitted l = true ∧ row.op.paramCount l = n := by
  cases l <;> decide

/-- Every command has a row. -/
theorem catalogue_complete (op : Opcode) : ∃ row ∈ catalogue, row.op = op := by
  cases op <;> decide

/-- A CODE of no row names no command (R208). -/
theorem ofCode_eq_none {code : Byte} (h : ∀ row ∈ catalogue, row.code ≠ code) : Opcode.ofCode code = none := by
  by_contra named
  obtain ⟨op, hop⟩ := Option.ne_none_iff_exists'.mp named
  obtain ⟨row, hrow, rfl⟩ := catalogue_complete op
  exact h row hrow ((catalogue_row .cLink row hrow).1.symm.trans (code_of_ofCode hop))

theorem exec_unknownCommand {code : Byte} (h : Opcode.ofCode code = none) (l : Link) (tag : Byte)
    (ps : List Byte) (s : State) :
    exec (.unknownCommand l code tag ps) s = .next (s.takeUnknown l code tag) := by
  simp [exec, execUnknownCommand, h]

/-! ### Responses (11.1, R220) -/

theorem Result.code_eq (r : Result) : r.code = resultByte r := by cases r <;> rfl

end Sys2Proof.Machine

open Sys2Proof Sys2Proof.Machine Sys2Proof.Claims

/-- Settles O31: the rows' facts by `catalogue_row`, and the checks of `takeCommand` in their order. -/
theorem commandsAreCheckedInOrder : Obligations.CommandsAreCheckedInOrder := by
  refine ⟨catalogue_complete, fun row hrow => ⟨(catalogue_row .cLink row hrow).1, fun l tag ps => ?_⟩,
    fun l tag ps code hcode => ?_⟩
  · obtain ⟨code, refused, admitted⟩ := catalogue_row l row hrow
    refine ⟨by rw [← code, commandOf_code], fun s hr => ?_⟩
    rw [exec_instr]
    refine ⟨fun hb => ?_, fun hb hn => ?_, fun n hb hn hl => ?_⟩
    · rw [takeCommand_busy hr hb, State.linkError_eq]
    · rw [takeCommand_notPermitted hr hb (refused hn), State.refuse_send]
    · obtain ⟨may, rfl⟩ := admitted n hn
      rw [takeCommand_badLength hr hb may hl, State.refuse_send]
  · have unnamed := ofCode_eq_none hcode
    refine ⟨by simp only [commandOf, unnamed], fun s hr => ?_⟩
    rw [exec_unknownCommand unnamed, State.takeUnknown, if_neg (ne_true_of_eq_false hr)]
    refine ⟨fun hb => ?_, fun hb => ?_⟩
    · rw [if_pos hb, State.linkError_eq]
    · rw [if_neg (ne_true_of_eq_false hb)]
      rfl

/-- Settles O32: a response by its two check bytes; a command that is not carried out by its checks is answered by its
owning block, whose reply is plain. -/
theorem refusedCommandsChangeNothing : Obligations.RefusedCommandsChangeNothing := by
  refine ⟨fun code tag r data => ?_, fun op l tag ps s hs => ?_⟩
  · obtain ⟨hi, lo, check, register⟩ :=
      checkBytes_eq (low (3 + data.length) :: code :: tag :: resultByte r :: data)
    refine ⟨hi, lo, ?_, register⟩
    have len : BitVec.ofNat 8 (code :: tag :: resultByte r :: data).length = low (3 + data.length) := by
      simp only [List.length_cons, low, Nat.add_comm 3]
    rw [responseFrame, frameOf, Result.code_eq, len, check]
    rfl
  · rw [exec_instr]
    by_cases may : op.admitted l = true
    · by_cases fits : ps.length = op.paramCount l
      · rw [takeCommand_free hs may fits]
        exact ⟨_, _, _, rfl, blockOf_plain l ps op s⟩
      · rw [takeCommand_badLength hs.1 hs.2 may fits, State.refuse_send]
        exact ⟨s, _, _, rfl, .inr (.inr ⟨rfl, rfl⟩)⟩
    · rw [takeCommand_notPermitted hs.1 hs.2 (eq_false_of_ne_true may), State.refuse_send]
      exact ⟨s, _, _, rfl, .inr (.inr ⟨rfl, rfl⟩)⟩
end

section
/-! PROOFS. RESET_N, the restart, and the highway's events (chapters 1 and 10): what the model does is what the statements say
in the manual's words. -/

namespace Sys2Proof.Machine

open Sys2Proof.Claims

/-! ### The restart (R201) -/

theorem Channel.restart_eq : Channel.restart = restartedChannel := rfl

/-- A link controller after the restart: the mask admits DEVICE_RESTARTED, so the line is driven (R213). -/
theorem LinkCtl.restart_eq (lock : Lock) (l : Link) (k : LinkCtl) :
    k.restart lock l = restartedLink lock k.tx k.busy := by
  cases l <;> rfl

theorem State.restart_eq (s : State) : s.restart = restarted s := by
  unfold State.restart restarted
  rw [LinkCtl.restart_eq, LinkCtl.restart_eq, Channel.restart_eq]
  rfl

/-! ### Pulses (R4) -/

theorem Highway.runAfter_eq (h : Highway) (bit ns : Nat) : h.runAfter ⟨bit, ns⟩ = pulseRun h bit ns := by
  unfold Highway.runAfter Highway.spaced pulseRun
  cases h.lastPulse with
  | none => simp
  | some q =>
    by_cases empty : h.goodRun = 0
    · simp [empty]
    · simp [empty, Nat.pos_of_ne_zero empty]

/-! ### The beginning of a frame (R2, R10, R11, R13) -/

theorem State.countFrame_eq (s : State) : s.countFrame = frameCounted s := by
  unfold State.countFrame frameCounted
  by_cases full : 7999 ≤ s.clock.fis
  · rw [if_pos full, if_neg (by omega)]
  · rw [if_neg full, if_pos (by omega)]

/-- LOCKED opens with 0 in every timeslot and every frame event owed (R2, R4, R9). -/
theorem State.enterLocked_eq (s : State) (bit ns : Nat) : s.enterLocked ⟨bit, ns⟩ = lockOpened bit ns s := by
  unfold State.enterLocked State.beginFrame lockOpened State.mapChans
  rw [State.countFrame_eq]
  simp only [Table.map_map]
  rfl

theorem State.advanceFrame_eq (s : State) (n : Nat) : s.advanceFrame n = frameBegun n s := by
  have counter : (if 7999 ≤ s.highway.frame then 0 else s.highway.frame + 1) =
      if s.highway.frame < 7999 then s.highway.frame + 1 else 0 := by
    split <;> split <;> omega
  unfold State.advanceFrame State.nextFrame State.beginFrame frameBegun State.mapChans
  rw [State.countFrame_eq]
  simp only [counter]
  rfl

theorem State.restore_eq (s : State) :
    s.restore = State.handEvent { s with channels := s.channels.map restored } none .highwayRestored := rfl

/-! ### The loss of lock (R7, R8) -/

theorem ClockState.atLoss_eq (k : ClockState) : k.atLoss = if k = .set then .stale else k := by
  cases k <;> rfl

/-- CLOCK_ALERT goes with HIGHWAY_FAULT on the M-link when the clock was SET (R7, R211). -/
theorem faultRaised_eq (k : ClockState) :
    (fun c : Conditions => if k = .set then c.raiseFault.raiseClockAlert else c.raiseFault) =
      fun c => { c with highwayFault := true, clockAlert := c.clockAlert || decide (k = .set) } := by
  funext c
  by_cases set : k = .set
  · simp [set, Conditions.raiseFault, Conditions.raiseClockAlert]
  · simp [set, Conditions.raiseFault]

theorem State.enterLost_eq (s : State) : s.enterLost = lockLost s := by
  unfold State.enterLost lockLost
  simp only [ClockState.atLoss_eq, faultRaised_eq]
  rfl

/-! ### A stopped BCLK (R1, R6) -/

/-- The bits of a timeslot from the stopped bit period on are taken as 0. -/
theorem takenBits_stopped {n k : Nat} {b b' : BitVec 16}
    (h : ∀ i, i < 16 → b'.getMsbD i = (b.getMsbD i && decide (16 * n + i < k))) :
    takenBits (some k) n b = b' := by
  refine BitVec.eq_of_getMsbD_eq fun i hi => ?_
  have ones : (0xFFFF#16).getMsbD (i + (16 - min 16 (k - 16 * n))) = decide (16 * n + i < k) := by
    rw [show (0xFFFF#16) = BitVec.allOnes 16 from rfl, BitVec.getMsbD_allOnes]
    exact decide_eq_decide.mpr (by omega)
  rw [takenBits, BitVec.getMsbD_and, BitVec.getMsbD_shiftLeft, ones, h i hi]

/-- A frame event is taken in LOCKED when the frame owes it, with RESET_N not asserted (R11, assumption 4). -/
def State.TakesFrame (s : State) (ch : ChannelNo) : Prop := Running s ∧ (s.chan ch).frameDue = true

theorem exec_frameEvent_taken {s : State} {ch : ChannelNo} (h : s.TakesFrame ch) (t x : BitVec 16) :
    exec (.frameEvent ch t x) s =
      .next
        (s.setChan ch
          (Channel.frame (s.heldOf (s.chan ch).profile) s.highway.blockEndFrame
            (takenBits s.highway.bclkStop ch.val t).toInt (takenBits s.highway.bclkStop ch.val x).toInt
            (s.chan ch))) :=
  congrArg _ (if_neg (by simp [h.1.1, h.1.2, h.2]))

theorem exec_frameEvent_ignored {s : State} {ch : ChannelNo} (h : ¬s.TakesFrame ch) (t x : BitVec 16) :
    exec (.frameEvent ch t x) s = .next s := by
  refine congrArg _ (if_pos ?_)
  simpa [State.TakesFrame, Running, and_assoc, imp_iff_not_or, or_assoc] using h

@[simp] theorem takenBits_none (n : Nat) (b : BitVec 16) : takenBits none n b = b := rfl

end Sys2Proof.Machine

open Sys2Proof Sys2Proof.Machine Sys2Proof.Claims

/-- Settles O6: the state of RESET_ASSERT by its form; every other row asks for RESET_N first. -/
theorem resetHoldsThePart : Obligations.ResetHoldsThePart := by
  refine ⟨fun s => ⟨_, rfl, rfl, rfl, rfl, fun l => ?_, fun ch => ?_⟩, fun c s hw ha hr h => ?_, fun s h => ?_⟩
  · cases l <;> exact ⟨rfl, rfl, rfl, rfl⟩
  · exact State.everyChannel_reset (P := fun c => c.xOut = 0 ∧ c.zOut = 0) ⟨rfl, rfl⟩ ch
  · cases c with
    | resetAssert => exact absurd rfl ha
    | resetRelease => exact absurd rfl hr
    | fsyncPulse => exact congrArg _ (if_pos h)
    | pulseTimeout => exact congrArg _ (if_pos (by simp [h]))
    | bclkStopped => exact congrArg _ (if_pos (by simp [h]))
    | expectedPosition => exact congrArg _ (if_pos (by simp [h]))
    | frameEvent => exact congrArg _ (if_pos (by simp [h]))
    | blockEnd => exact congrArg _ (if_pos (by simp [h]))
    | secondTick => exact congrArg _ (if_pos (by simp [h]))
    | receiveByte => exact if_pos h
    | gapTimerExpiry => exact congrArg _ (if_pos h)
    | responseSent => exact congrArg _ (if_pos (by simp [h]))
    | restartInstant => exact congrArg _ (if_pos (by simp [h]))
    | unknownCommand l code tag ps =>
      simp only [Instr.WellFormed, Bool.and_eq_true, Option.isNone_iff_eq_none] at hw
      rw [exec_unknownCommand hw.1, State.takeUnknown, if_pos h]
    | _ => exact congrArg _ (takeCommand_inReset h)
  · exact congrArg _ (if_neg (ne_true_of_eq_false h))

/-- Settles O7: both rows are the restart when one waits, and RESPONSE_SENT ends any other response. -/
theorem restartAwaitsItsResponse : Obligations.RestartAwaitsItsResponse := by
  refine ⟨fun s hr hw => ⟨?_, fun ht => ?_⟩, fun l s hr ht other => ?_, fun s hw => ?_, fun l s ht => ?_⟩
  · rw [exec_restartInstant hr hw, State.restart_eq]
  · rw [exec_responseSent_restart hr hw ht, State.restart_eq]
  · have sending : (s.link l).tx.isNone = false := by rw [← Option.not_isSome, ht]; rfl
    have plain : s.restartsNow l = false := by
      obtain rfl | hw := other
      · rfl
      · simp [State.restartsNow, hw]
    refine congrArg _ ((if_neg (by simp [hr, sending])).trans (if_neg (ne_true_of_eq_false plain)))
  · exact congrArg _ (if_pos (by simp [hw]))
  · exact congrArg _ (if_pos (by simp [ht]))

/-- Settles O8: the run by `Highway.runAfter_eq`; below 8 it is only counted. -/
theorem pulsesMoveTheGoodRun : Obligations.PulsesMoveTheGoodRun := by
  refine ⟨fun s hr out => ⟨fun bit ns short => ?_, ?_⟩, fun s locked => ?_⟩
  · rw [← Highway.runAfter_eq] at short ⊢
    refine congrArg _ ((if_neg (ne_true_of_eq_false hr)).trans ?_)
    cases hl : s.highway.lock with
    | locked => exact absurd hl out
    | acquiring => exact if_neg (by omega)
    | lost => exact if_neg (by omega)
  · exact congrArg _ (if_neg (by simp [hr, out]))
  · exact congrArg _ (if_pos (by simp [locked]))

/-- Settles O9: the eighth pulse opens LOCKED by `State.enterLocked_eq`, out of LOST after the restoration. -/
theorem eighthPulseOpensLock : Obligations.EighthPulseOpensLock := by
  refine ⟨fun s bit ns hr hl eight => ?_, fun s bit ns hr hl eight => ?_⟩
  all_goals
    rw [← Highway.runAfter_eq] at eight
    rw [← State.enterLocked_eq]
    simp only [exec, execFsyncPulse, hr, hl, Bool.false_eq_true, if_false, if_pos eight, State.restore_eq]

/-- Settles O10: the position is good, bad, or the third bad one in a row. -/
theorem expectedPositionKeepsOrLosesLock : Obligations.ExpectedPositionKeepsOrLosesLock := by
  have good (s : State) (fsync : Bool) :
      (fsync && !s.highway.misplaced) = true ↔ fsync = true ∧ s.highway.misplaced = false := by simp
  have taken {s : State} (h : Running s) : ¬(s.resetAsserted || s.highway.lock != .locked) = true := by
    simp [h.1, h.2]
  refine ⟨fun s fsync h => ⟨fun hg => ?_, fun hg few => ?_⟩, fun s fsync h hg many => ?_, fun s fsync out => ?_⟩
  · rw [← State.advanceFrame_eq]
    exact congrArg _ ((if_neg (taken h)).trans (if_pos ((good s fsync).mpr hg)))
  · rw [← State.advanceFrame_eq]
    exact congrArg _ ((if_neg (taken h)).trans
      ((if_neg (mt (good s fsync).mp hg)).trans (if_pos few)))
  · rw [← State.enterLost_eq]
    exact congrArg _ ((if_neg (taken h)).trans
      ((if_neg (mt (good s fsync).mp hg)).trans (if_neg (by omega))))
  · exact congrArg _ (if_pos (by simp [out]))

/-- Settles O11: a pulse and a stop are marks of the highway; a frame event sees the stopped bits through
`takenBits_stopped`. -/
theorem lockedPulsesAndStoppedClock : Obligations.LockedPulsesAndStoppedClock := by
  refine ⟨fun s h => ⟨fun bit ns => ?_, fun k => ?_⟩, fun s ch k t t' x x' stop bits => ?_, fun s k out => ?_⟩
  · simp only [exec, execFsyncPulse, h.1, h.2, Bool.false_eq_true, if_false, State.lockedPulse]
  · refine congrArg _ ((if_neg (by simp [h.1, h.2])).trans ?_)
    cases s.highway.bclkStop <;> rfl
  · have ht : takenBits s.highway.bclkStop ch.val t = t' := stop ▸ takenBits_stopped fun i hi => (bits i hi).1
    have hx : takenBits s.highway.bclkStop ch.val x = x' := stop ▸ takenBits_stopped fun i hi => (bits i hi).2
    by_cases taken : s.TakesFrame ch
    · refine ⟨_, exec_frameEvent_taken (by exact taken) t' x', ?_⟩
      rw [exec_frameEvent_taken taken, ht, hx]
      conv_rhs => rw [← stop]
      rfl
    · refine ⟨_, exec_frameEvent_ignored (by exact taken) t' x', ?_⟩
      rw [exec_frameEvent_ignored taken, ← stop]
  · exact congrArg _ (if_pos (by simp [out]))
end

section
/-! PROOFS. One sample of one channel (chapters 1 to 5): each stage of the model is the quantity that the statements name. -/

namespace Sys2Proof.Machine

open Sys2Proof.Claims

/-! ### Arithmetic in the statements' words -/

theorem clampTo_eq {lo hi : Int} (h : lo ≤ hi) (v : Int) :
    clampTo lo hi v = if v < lo then lo else if hi < v then hi else v := by
  unfold clampTo
  split
  · omega
  · split <;> omega

theorem saturate_eq_clip16 (v : Int) : saturate v = clip16 v := clampTo_eq (by decide) v

theorem gainOut_eq_gained (i v : Int) : gainOut i v = gained i v := saturate_eq_clip16 _

theorem gainClips_eq_clips (i v : Int) : gainClips i v = clips i v := rfl

theorem countIf_eq_counted (n : Nat) (b : Bool) (v : Nat) : countIf n b v = counted n b v := by
  cases b <;> simp [countIf, counted, satInc]

/-- The taps after an adapted sample, place by place (R38). -/
theorem Echo.adapt_tapAt (p : ParamSet) (m : Nat) (res : Int) (e : Echo) (k : Nat) :
    tapAt (e.adapt p m res) k =
      if k < e.taps.data.length ∧ k < (e.windowSamples p).length then
        adaptTap (e.step p m res) (tapAt e k) ((e.windowSamples p).getD k 0)
      else tapAt e k :=
  adaptTaps_getD ..

theorem toNat_eq_ite (b : Bool) : b.toNat = if b = true then 1 else 0 := by cases b <;> rfl

/-! ### The window after the new sample (R16, R18 to R20) -/

section stages

variable {c : Channel} (t s : Int) (held : Bool)

theorem Channel.stageX_eq : c.stageX t = newX c t := gainOut_eq_gained _ _

/-- The history after stage 2, place by place. -/
theorem Channel.stageEcho_sampleAt {k : Nat} (hk : k < 1472) : sampleAt (c.stageEcho t) k = pastX c t k := by
  rw [pastX, ← Channel.stageX_eq]
  exact pushHistory_getD _ _ hk

theorem Channel.cancelling_eq_cancels (c : Channel) : c.cancelling = cancels c := by
  unfold Channel.cancelling cancels
  cases c.custody <;> rfl

variable (valid : c.params.valid = true)
include valid

/-- A window sample of a valid set lies in the history. -/
theorem Channel.stageEcho_window {k : Nat} (hk : k < c.params.window) :
    (c.stageEcho t).history.data.getD (c.params.bulkDelay + k) 0 = winX c t k := by
  have := ParamSet.window_fits valid
  exact Channel.stageEcho_sampleAt t (by omega)

theorem Channel.stageEcho_energy : (c.stageEcho t).energy = newEnergy c t :=
  (Echo.energy_window c.params (c.stageEcho t)).trans
    (Finset.sum_congr rfl fun _ hk => by
      rw [Channel.stageEcho_window t valid (Finset.mem_range.mp hk)])

theorem Channel.stageEcho_peak : (c.stageEcho t).peak = newPeak c t :=
  (Echo.peak_window c.params (c.stageEcho t)).trans
    (Finset.sup_congr rfl fun _ hk => by
      rw [Channel.stageEcho_window t valid (Finset.mem_range.mp hk)])

/-! ### Stages 3 to 8 (R30) -/

theorem Channel.stageY_eq : c.stageY t = newY c t := by
  have acc : tapSum (c.stageEcho t).taps.data ((c.stageEcho t).windowSamples c.params) =
      ∑ k ∈ Finset.range c.params.window, tapAt c.echo k * winX c t k :=
    (Echo.tapSum_window c.params (c.stageEcho t)).trans
      (Finset.sum_congr rfl fun _ hk => by
        rw [Channel.stageEcho_window t valid (Finset.mem_range.mp hk)]
        rfl)
  rw [Channel.stageY, Echo.estimate, acc, Machine.estimate, saturate_eq_clip16, Channel.cancelling_eq_cancels]
  rfl

theorem Channel.stageE_eq : c.stageE t s = newE c t s := by
  rw [Channel.stageE, residual, saturate_eq_clip16, Channel.stageY_eq t valid]
  rfl

theorem Channel.stageDeclared_eq : c.stageDeclared t s = declared c t s := by
  rw [Channel.stageDeclared, nearDeclared, Channel.stageEcho_peak t valid]
  rfl

theorem Channel.stageHangover_eq : c.stageHangover t s = newHangover c t s := by
  rw [Channel.stageHangover, Channel.stageDeclared_eq t s valid, hangoverAfter, newHangover]
  split
  · rfl
  · split <;> omega

theorem Channel.stageNear_eq : c.stageNear t s = nearNow c t s := by
  rw [Channel.stageNear, Channel.stageDeclared_eq t s valid, Channel.stageHangover_eq t s valid]
  rfl

theorem Channel.stageAllowed_eq : c.stageAllowed held t s = allowed c held t s := by
  rw [Channel.stageAllowed, Channel.cancelling_eq_cancels, Channel.stageNear_eq t s valid,
    Channel.stageEcho_peak t valid]
  rfl

theorem Channel.stageConv_eq : c.stageConv held t s = newConv c held t s := by
  rw [Channel.stageConv, Channel.stageAllowed_eq t s held valid]
  unfold newConv convAfterDecision
  cases c.near.conv <;> simp

theorem Channel.stageM_eq : c.stageM held t s = exponent c held t s := by
  rw [Channel.stageM, Channel.stageConv_eq t s held valid]
  unfold exponent stepExponent
  cases newConv c held t s <;> rfl

theorem Channel.stageSuppressed_eq : c.stageSuppressed held t s = suppressed c held t s := by
  rw [Channel.stageSuppressed, Channel.cancelling_eq_cancels, Channel.stageNear_eq t s valid,
    Channel.stageConv_eq t s held valid, Channel.stageEcho_peak t valid]
  unfold suppressActive suppressed Channel.nlpOn
  rw [Bool.decide_and]
  cases c.custody <;> simp only [Bool.and_assoc]

theorem Channel.stageU_eq : c.stageU held t s = newU c held t s := by
  rw [Channel.stageU, Channel.stageSuppressed_eq t s held valid, Channel.stageE_eq t s valid]
  rfl

theorem Channel.stageZ_eq : c.stageZ held t s = gained c.tLevel.gain (newU c held t s) := by
  rw [Channel.stageZ, gainOut_eq_gained, Channel.stageU_eq t s held valid]

/-! ### Stage 6: the taps (R34 to R39) -/

/-- The step factor (R35, R36). -/
theorem Channel.stageEcho_step :
    (c.stageEcho t).step c.params (c.stageM held t s) (c.stageE t s) = stepA c held t s := by
  rw [Echo.step, stepFactor, clampTo_eq (by decide), Channel.stageEcho_energy t valid,
    Channel.stageM_eq t s held valid, Channel.stageE_eq t s valid]
  rfl

/-- The window of a valid set is as long as W, and no longer than the taps. -/
theorem Channel.stageEcho_lengths :
    ((c.stageEcho t).windowSamples c.params).length = c.params.window ∧
      c.params.window ≤ (c.stageEcho t).taps.data.length := by
  have fits := ParamSet.window_fits valid
  exact ⟨Echo.windowSamples_length _ fits.1, by rw [(c.stageEcho t).taps.size]; exact fits.2⟩

/-- The window sample that meets tap `k`. -/
theorem Channel.stageEcho_windowSamples {k : Nat} (hk : k < c.params.window) :
    ((c.stageEcho t).windowSamples c.params).getD k 0 = winX c t k := by
  rw [← Channel.stageEcho_window t valid hk, Echo.windowSamples, List.getD_eq_getElem?_getD,
    List.getElem?_take_of_lt hk, ← List.getD_eq_getElem?_getD, getD_drop]

theorem Channel.stageAdapted_tapAt (ha : allowed c held t s = true) (k : Nat) :
    tapAt (c.stageAdapted held t s) k =
      if k < c.params.window then adaptedTap c held t s k else tapAt c.echo k := by
  obtain ⟨long, short⟩ := Channel.stageEcho_lengths t valid
  have adapts : c.stageAdapted held t s =
      (c.stageEcho t).adapt c.params (c.stageM held t s) (c.stageE t s) :=
    if_pos ((Channel.stageAllowed_eq t s held valid).trans ha)
  rw [adapts, Echo.adapt_tapAt, Channel.stageEcho_step t s held valid, long]
  by_cases hk : k < c.params.window
  · rw [if_pos ⟨by omega, hk⟩, if_pos hk, Channel.stageEcho_windowSamples t valid hk, adaptTap,
      clampTo_eq (by decide)]
    rfl
  · rw [if_neg fun h => hk h.2, if_neg hk]
    rfl

theorem Channel.stageClamps_eq (ha : allowed c held t s = true) :
    c.stageClamps held t s =
      decide
        (∃ k, k < c.params.window ∧ (rawTap c held t s k < -4194304 ∨ 4194303 < rawTap c held t s k)) := by
  obtain ⟨long, short⟩ := Channel.stageEcho_lengths t valid
  rw [Channel.stageClamps, Channel.stageAllowed_eq t s held valid, ha, Bool.true_and, Bool.eq_iff_iff,
    decide_eq_true_iff, Echo.clamps, Channel.stageEcho_step t s held valid, anyTapClamped_iff, long]
  refine exists_congr fun k => ?_
  by_cases hk : k < c.params.window
  · rw [Channel.stageEcho_windowSamples t valid hk, tapClamped, Bool.or_eq_true, decide_eq_true_iff,
      decide_eq_true_iff]
    exact ⟨fun h => h.2, fun h => ⟨by omega, h⟩⟩
  · exact ⟨fun h => absurd h.2.1 hk, fun h => absurd h.1 hk⟩

end stages

/-! ### The frame event of a channel (R11) -/

section frame

variable {s : State} {ch : ChannelNo}

/-- A frame event with every bit period clocked by BCLK. -/
theorem exec_frameEvent_due (h : FrameDue ch s) (t x : BitVec 16) :
    exec (.frameEvent ch t x) s =
      .next
        (s.setChan ch
          (Channel.frame (heldBy s ch) (decide (s.highway.frame % 40 = 39)) t.toInt x.toInt (s.chan ch))) := by
  rw [exec_frameEvent_taken ⟨h.1, h.2.1⟩, h.2.2]
  rfl

theorem Channel.frame_idle {c : Channel} (h : c.custody = .idle) (held b : Bool) (t x : Int) :
    Channel.frame held b t x c = { c.idleFrame t x with frameDue := false, blockDue := b } := by
  rw [Channel.frame, (Channel.active_eq_false_iff c).mpr h]
  rfl

theorem Channel.frame_active {c : Channel} (h : c.custody ≠ .idle) (held b : Bool) (t x : Int) :
    Channel.frame held b t x c = { c.activeFrame held t x with frameDue := false, blockDue := b } := by
  rw [Channel.frame, (Channel.active_iff c).mpr h]
  rfl

/-- What a frame event leaves of a channel in CALL or TEST. -/
theorem exec_frameEvent_active (h : FrameDue ch s) (use : (s.chan ch).custody ≠ .idle) (t x : BitVec 16) :
    exec (.frameEvent ch t x) s =
      .next
        (s.setChan ch
          { (s.chan ch).activeFrame (heldBy s ch) t.toInt x.toInt with
            frameDue := false, blockDue := decide (s.highway.frame % 40 = 39) }) := by
  rw [exec_frameEvent_due h, Channel.frame_active use]

/-- A change of one channel is a change of that channel only. -/
theorem onlyChannel_setChan (s : State) (ch : ChannelNo) (c : Channel) : OnlyChannel ch s (s.setChan ch c) :=
  ⟨rfl, rfl, rfl, rfl, rfl, rfl, rfl, rfl, rfl, rfl, fun k hk => by
    rw [State.chan_setChan, if_neg (Ne.symm hk)]⟩

end frame

/-- A sign change is counted when one sample is negative and the other is not (R73). -/
theorem signChange_toNat (a b : Int) : (signChange a b).toNat = if (a < 0 ↔ b < 0) then 0 else 1 := by
  unfold signChange
  by_cases ha : a < 0 <;> by_cases hb : b < 0 <;> simp [ha, hb]

end Sys2Proof.Machine

open Sys2Proof Sys2Proof.Machine Sys2Proof.Claims

/-- Settles O12: the engine takes t in and is measured anew; an event that is not taken leaves everything. -/
theorem idleChannelPassesSamples : Obligations.IdleChannelPassesSamples := by
  refine ⟨fun s ch t x h idle => ⟨(s.chan ch).echo.enter (s.chan ch).params t.toInt, rfl, fun k hk => ?_, ?_, ?_, ?_⟩,
    fun s ch t x h => exec_frameEvent_ignored (fun taken => ?_) t x⟩
  · exact pushHistory_getD _ _ hk
  · exact Echo.energy_window (s.chan ch).params ((s.chan ch).echo.enter (s.chan ch).params t.toInt)
  · exact Echo.peak_window (s.chan ch).params ((s.chan ch).echo.enter (s.chan ch).params t.toInt)
  · rw [exec_frameEvent_due h, Channel.frame_idle idle]
    rfl
  · obtain out | due := h
    · exact out taken.1.2
    · exact Bool.false_ne_true (due.symm.trans taken.2)

/-- Settles O13: the stages of the sample, each in the statements' words. -/
theorem sampleFollowsTheStages : Obligations.SampleFollowsTheStages := by
  refine ⟨fun s ch t x h use valid => ⟨_, exec_frameEvent_active h use t x, ?_⟩,
    fun s ch t x h use valid => ⟨_, exec_frameEvent_active h use t x, ?_⟩⟩ <;>
    rw [State.chan_setChan_self]
  · have adapted : (((s.chan ch).stageAdapted (heldBy s ch) t.toInt x.toInt).energy =
        ((s.chan ch).stageEcho t.toInt).energy ∧
        ((s.chan ch).stageAdapted (heldBy s ch) t.toInt x.toInt).peak =
          ((s.chan ch).stageEcho t.toInt).peak) := by
      unfold Channel.stageAdapted
      split <;> exact ⟨rfl, rfl⟩
    refine ⟨Channel.stageX_eq _, fun k hk => ?_, adapted.1.trans (Channel.stageEcho_energy _ valid),
      adapted.2.trans (Channel.stageEcho_peak _ valid)⟩
    refine Eq.trans ?_ (Channel.stageEcho_sampleAt t.toInt hk)
    exact congrArg (fun h : Table Int 1472 => h.data.getD k 0) (Channel.stageAdapted_history ..)
  · refine ⟨Channel.stageZ_eq _ _ _ valid, countIf_eq_counted _ _ _, ?_⟩
    rw [← Channel.stageU_eq _ _ _ valid]
    exact countIf_eq_counted _ _ _

/-- Settles O14: the convergence state, and the taps by `Channel.stageAdapted_tapAt`. -/
theorem adaptationMovesTheTaps : Obligations.AdaptationMovesTheTaps := by
  intro s ch t x h use valid
  refine ⟨_, exec_frameEvent_active h use t x, ?_⟩
  rw [State.chan_setChan_self]
  refine ⟨Channel.stageConv_eq _ _ _ valid, fun still => ?_, fun moves => ⟨fun k hk => ?_, fun k hk => ?_, ?_⟩⟩
  · rw [← Channel.stageAllowed_eq _ _ _ valid] at still
    refine ⟨?_, ?_⟩
    · show (Channel.stageAdapted _ _ _ _).taps = _
      rw [Channel.stageAdapted, still]
      rfl
    show countIf 65535 (Channel.stageClamps _ _ _ _) _ = _
    rw [Channel.stageClamps, still]
    rfl
  · exact (Channel.stageAdapted_tapAt _ _ _ valid moves k).trans (if_pos hk)
  · exact (Channel.stageAdapted_tapAt _ _ _ valid moves k).trans (if_neg (by omega))
  · rw [← Channel.stageClamps_eq _ _ _ valid moves]
    exact countIf_eq_counted _ _ _

/-- Settles O15: the accumulators, each in the statements' words; the rest of the channel and of the part is as it was. -/
theorem sampleFillsTheAccumulators : Obligations.SampleFillsTheAccumulators := by
  intro s ch t x h use valid
  refine ⟨_, exec_frameEvent_active h use t x, onlyChannel_setChan _ _ _, rfl, rfl, ?_⟩
  rw [State.chan_setChan_self]
  refine ⟨?_, rfl⟩
  simp only [Channel.activeFrame, Near.sample, Tone.observe, ToneDir.observe, Level.sample,
    Channel.stageHangover_eq _ _ valid, Channel.stageNear_eq _ _ valid, Channel.stageAllowed_eq _ _ _ valid,
    Channel.stageSuppressed_eq _ _ _ valid, Channel.stageE_eq _ _ valid, Channel.stageU_eq _ _ _ valid,
    Channel.cancelling_eq_cancels, signChange_toNat, gainClips_eq_clips, Channel.stageZ, gainOut_eq_gained,
    ← pow_two]
  simp only [toNat_eq_ite]
  rfl
end

section
/-! PROOFS. Block ends (chapters 1, 3, 4, 5 and 9): classification and convergence, the tone judgement, the block ALC, and the
records in their order. -/

namespace Sys2Proof.Machine

open Sys2Proof.Claims

/-! ### Classification (R56) -/

theorem Near.qualified_iff (n : Near) :
    (n.cancelling && decide (n.nsc = 0) && decide (20 ≤ n.ac)) = true ↔ Qualified n := by
  simp [Qualified, and_assoc]

theorem Near.classify_unqualified {n : Near} (h : ¬Qualified n) : n.classify = .unqualified :=
  if_neg (mt n.qualified_iff.mp h)

theorem Near.classify_good {n : Near} (h : GoodBlock n) : n.classify = .good :=
  (if_pos (n.qualified_iff.mpr h.1)).trans (if_pos h.2)

theorem Near.classify_diverging {n : Near} (h : DivergingBlock n) : n.classify = .diverging := by
  obtain ⟨qualified, loud⟩ := h
  exact (if_pos (n.qualified_iff.mpr qualified)).trans ((if_neg (by omega)).trans (if_pos loud))

theorem Near.classify_nonGood {n : Near} (h : NonGoodBlock n) : n.classify = .nonGood := by
  obtain ⟨qualified, low, high⟩ := h
  exact (if_pos (n.qualified_iff.mpr qualified)).trans ((if_neg (by omega)).trans (if_neg (by omega)))

/-- A block is in exactly one class. -/
theorem Near.classes (n : Near) : ¬Qualified n ∨ GoodBlock n ∨ NonGoodBlock n ∨ DivergingBlock n := by
  by_cases qualified : Qualified n
  · right
    by_cases good : 16 * n.pe ≤ n.ps
    · exact .inl ⟨qualified, good⟩
    · by_cases loud : 2 * n.ps < n.pe
      · exact .inr (.inr ⟨qualified, loud⟩)
      · exact .inr (.inl ⟨qualified, by omega, by omega⟩)
  · exact .inl qualified

theorem Near.classify_good_iff (n : Near) : n.classify = .good ↔ GoodBlock n := by
  refine ⟨fun h => ?_, Near.classify_good⟩
  obtain hn | hn | hn | hn := n.classes
  · simp [Near.classify_unqualified hn] at h
  · exact hn
  · simp [Near.classify_nonGood hn] at h
  · simp [Near.classify_diverging hn] at h

theorem Near.classify_diverging_iff (n : Near) : n.classify = .diverging ↔ DivergingBlock n := by
  refine ⟨fun h => ?_, Near.classify_diverging⟩
  obtain hn | hn | hn | hn := n.classes
  · simp [Near.classify_unqualified hn] at h
  · simp [Near.classify_good hn] at h
  · simp [Near.classify_nonGood hn] at h
  · exact hn

/-- Divergence recovery takes place as R61 says. -/
theorem Near.recovers_iff (n : Near) : n.recovers n.classify = true ↔ Recovers n := by
  simp [Near.recovers, Recovers, Near.classify_diverging_iff, and_assoc]

/-! ### The convergence unit after a block end (R55, R59 to R62) -/

theorem Near.closeBlock_recovers {n : Near} (h : Recovers n) :
    n.closeBlock = n.clearConvergence.emptyBlock := by
  simp only [Near.closeBlock, if_pos (n.recovers_iff.mpr h)]

theorem Near.closeBlock_runs {n : Near} (h : ¬Recovers n) :
    n.closeBlock = (n.moveRuns n.classify).emptyBlock := by
  simp only [Near.closeBlock, if_neg (mt n.recovers_iff.mp h)]

theorem Near.not_recovers_of_not_diverging {n : Near} (h : ¬DivergingBlock n) : ¬Recovers n := fun r => h r.2.1

theorem Near.not_diverging_of_good {n : Near} (h : GoodBlock n) : ¬DivergingBlock n := fun d => by
  have := h.2
  have := d.2
  omega

theorem Near.not_diverging_of_nonGood {n : Near} (h : NonGoodBlock n) : ¬DivergingBlock n := fun d => by
  have := h.2.2
  have := d.2
  omega

theorem Near.not_recovers_of_good {n : Near} (h : GoodBlock n) : ¬Recovers n :=
  Near.not_recovers_of_not_diverging (Near.not_diverging_of_good h)

theorem Near.not_recovers_of_nonGood {n : Near} (h : NonGoodBlock n) : ¬Recovers n :=
  Near.not_recovers_of_not_diverging (Near.not_diverging_of_nonGood h)

/-- The sums are emptied; hangover, blanking and the cancelling note stay. -/
theorem Near.closeBlock_frame (n : Near) :
    n.closeBlock.ps = 0 ∧ n.closeBlock.pe = 0 ∧ n.closeBlock.nsc = 0 ∧ n.closeBlock.ac = 0 ∧
      n.closeBlock.nlpMark = false ∧ n.closeBlock.hangover = n.hangover ∧
      n.closeBlock.blanking = n.blanking ∧ n.closeBlock.cancelling = n.cancelling := by
  have bad : n.badBlock.hangover = n.hangover ∧ n.badBlock.blanking = n.blanking ∧
      n.badBlock.cancelling = n.cancelling := by
    unfold Near.badBlock
    split <;> exact ⟨rfl, rfl, rfl⟩
  have runs (k : BlockClass) : (n.moveRuns k).hangover = n.hangover ∧
      (n.moveRuns k).blanking = n.blanking ∧ (n.moveRuns k).cancelling = n.cancelling := by
    unfold Near.moveRuns
    split
    case h_3 => split <;> exact ⟨rfl, rfl, rfl⟩
    case h_7 | h_8 => exact bad
    all_goals exact ⟨rfl, rfl, rfl⟩
  refine ⟨rfl, rfl, rfl, rfl, rfl, ?_⟩
  by_cases h : Recovers n
  · rw [Near.closeBlock_recovers h]
    exact ⟨rfl, rfl, rfl⟩
  · rw [Near.closeBlock_runs h]
    exact runs _

/-! ### The block end of a channel -/

theorem Channel.closeBlock_idle {c : Channel} (h : c.custody = .idle) (held : Bool) :
    Channel.closeBlock held c = { c.emptyBlock with capturePending := false, blockDue := false } := by
  rw [Channel.closeBlock, (Channel.active_eq_false_iff c).mpr h]
  rfl

theorem Channel.closeBlock_active {c : Channel} (h : c.custody ≠ .idle) (held : Bool) :
    Channel.closeBlock held c = { c.closeActive held with capturePending := false, blockDue := false } := by
  rw [Channel.closeBlock, (Channel.active_iff c).mpr h]
  rfl

/-- The ring after the capture of a block end, if one is pending (R189). -/
def State.capturedRing (s : State) (ch : ChannelNo) : Ring :=
  if (s.chan ch).capturePending then s.ring.putCapture s.stamp ch (s.chan ch) else s.ring

/-- The part after the capture of a block end. -/
def State.captured (s : State) (ch : ChannelNo) : State :=
  if (s.chan ch).capturePending then s.withRing (s.ring.putCapture s.stamp ch (s.chan ch)) else s

theorem State.captured_ring (s : State) (ch : ChannelNo) : (s.captured ch).ring = s.capturedRing ch := by
  unfold State.captured State.capturedRing
  split <;> rfl

/-- Hand-overs leave the channels alone: a block end changes its channel as `Channel.closeBlock` says. -/
theorem State.blockEnd_chan (s : State) (ch k : ChannelNo) :
    (s.blockEnd ch).chan k =
      if ch = k then Channel.closeBlock (s.heldOf (s.chan ch).profile) (s.chan ch) else s.chan k := by
  have channels : (s.blockEnd ch).channels =
      s.channels.set ch (Channel.closeBlock (s.heldOf (s.chan ch).profile) (s.chan ch)) := by
    unfold State.blockEnd
    dsimp only
    rw [State.handEvent_opt_channels]
    split <;> split <;> rfl
  rw [State.chan, channels, Table.get_set]
  rfl

theorem exec_blockEnd_due {s : State} {ch : ChannelNo} (h : BlockDue ch s) :
    exec (.blockEnd ch) s = .next (s.blockEnd ch) :=
  congrArg _ (if_neg (by simp [h.1.1, h.1.2, h.2]))

theorem exec_blockEnd_ignored {s : State} {ch : ChannelNo}
    (h : s.highway.lock ≠ .locked ∨ (s.chan ch).blockDue = false) : exec (.blockEnd ch) s = .next s := by
  refine congrArg _ (if_pos ?_)
  obtain h | h := h <;> simp [h]

/-- The channel after its block end in CALL or TEST. -/
theorem State.blockEnd_chan_active {s : State} {ch : ChannelNo} (use : (s.chan ch).custody ≠ .idle) :
    (s.blockEnd ch).chan ch =
      { (s.chan ch).closeActive (heldBy s ch) with capturePending := false, blockDue := false } := by
  rw [State.blockEnd_chan, if_pos rfl, Channel.closeBlock_active use]
  rfl

/-! ### The tone detector (R74 to R79) -/

theorem ToneDir.toneLike_iff (observed : Nat) (d : ToneDir) :
    d.toneLike observed = true ↔ ToneLike observed d := by
  simp [ToneDir.toneLike, ToneLike, and_assoc]

theorem ToneDir.runAfter_moveRun (observed : Nat) (d : ToneDir) :
    RunAfter observed d (d.moveRun observed).run := by
  refine ⟨fun h => ?_, fun h => ?_⟩
  · simp only [ToneDir.moveRun, if_pos ((ToneDir.toneLike_iff observed d).mpr h), satInc]
  · simp only [ToneDir.moveRun, if_neg (mt (ToneDir.toneLike_iff observed d).mp h)]

/-- A run stands at 80 in some direction (R76). -/
theorem Tone.direction_isSome (k : Tone) :
    k.direction.isSome = true ↔ k.trunk.run = 80 ∨ k.exchange.run = 80 := by
  unfold Tone.direction
  by_cases trunk : k.trunk.run = 80 <;> by_cases exchange : k.exchange.run = 80 <;> simp [trunk, exchange]

/-- The tone items after a judged block end: powers kept, the block emptied (R74, R79), and the rest as given. -/
def Tone.closed (k : Tone) (trunkRun exchangeRun : Nat) (bypassed : Bool) (quietRun : Nat) : Tone :=
  { trunk := { k.trunk with crossings := 0, power := 0, prevPower := k.trunk.power, run := trunkRun }
    exchange :=
      { k.exchange with crossings := 0, power := 0, prevPower := k.exchange.power, run := exchangeRun }
    observed := 0, bypassMark := false, bypassed := bypassed, quietRun := quietRun }

/-- A judged block end leaves the items `j`, emptied, and hands the event `e`. -/
def Tone.ClosesTo (k : Tone) (enable : Bool) (j : Tone) (e : Option Event) : Prop :=
  (k.judge enable).1.emptyBlock = j ∧ (k.judge enable).2 = e

section judge

variable {k : Tone} {enable : Bool}

/-- The trunk and exchange runs of a QUIET channel after R75. -/
def Tone.nextRuns (k : Tone) : Nat × Nat := (k.moveRuns.trunk.run, k.moveRuns.exchange.run)

theorem Tone.closes_entering (quiet : k.bypassed = false) (on : enable = true) {d : ToneDirection}
    (hd : k.moveRuns.direction = some d) :
    k.ClosesTo enable (k.closed k.nextRuns.1 k.nextRuns.2 true 0) (some (.toneBypassOn d)) := by
  simp only [Tone.ClosesTo, Tone.judge, quiet, on, hd]
  exact ⟨rfl, rfl⟩

theorem Tone.closes_quiet (quiet : k.bypassed = false)
    (h : enable = false ∨ k.moveRuns.direction = none) :
    k.ClosesTo enable (k.closed k.nextRuns.1 k.nextRuns.2 false k.quietRun) none := by
  have e : k.judge enable =
      ({ k.moveRuns with
          trunk := k.moveRuns.trunk.keepPower, exchange := k.moveRuns.exchange.keepPower }, none) := by
    refine (if_neg (ne_true_of_eq_false quiet)).trans ?_
    obtain rfl | h := h
    · rfl
    · rw [h]
      cases enable <;> rfl
  unfold Tone.ClosesTo
  rw [e, ← quiet]
  exact ⟨rfl, rfl⟩

theorem Tone.closes_loud (bypassed : k.bypassed = true) (loud : k.quiet = false) :
    k.ClosesTo enable (k.closed k.trunk.run k.exchange.run true 0) none := by
  have e : k.judge enable =
      ({ k with quietRun := 0, trunk := k.trunk.keepPower, exchange := k.exchange.keepPower }, none) :=
    (if_pos bypassed).trans (if_neg (ne_true_of_eq_false loud))
  unfold Tone.ClosesTo
  rw [e, ← bypassed]
  exact ⟨rfl, rfl⟩

theorem Tone.closes_waiting (bypassed : k.bypassed = true) (quiet : k.quiet = true)
    (short : k.quietRun + 1 < 50) :
    k.ClosesTo enable (k.closed k.trunk.run k.exchange.run true (k.quietRun + 1)) none := by
  have e : k.judge enable =
      ({ k with
          quietRun := k.quietRun + 1, trunk := k.trunk.keepPower, exchange := k.exchange.keepPower },
        none) :=
    (if_pos bypassed).trans ((if_pos quiet).trans (if_neg (not_le.mpr short)))
  unfold Tone.ClosesTo
  rw [e, ← bypassed]
  exact ⟨rfl, rfl⟩

theorem Tone.closes_released (bypassed : k.bypassed = true) (quiet : k.quiet = true)
    (long : 50 ≤ k.quietRun + 1) : k.ClosesTo enable (k.closed 0 0 false 0) (some .toneBypassOff) := by
  have e : k.judge enable = _ := (if_pos bypassed).trans ((if_pos quiet).trans (if_pos long))
  unfold Tone.ClosesTo
  rw [e]
  exact ⟨rfl, rfl⟩

/-- The whole of a judged block end: the five cases, each with what it leaves and hands over (R75 to R78). -/
theorem Tone.closes_cases (k : Tone) (enable : Bool) :
    ∃ j e, k.ClosesTo enable j e ∧
      ((k.bypassed = false ∧ enable = true ∧ ∃ d, k.moveRuns.direction = some d ∧
          j = k.closed k.nextRuns.1 k.nextRuns.2 true 0 ∧ e = some (.toneBypassOn d)) ∨
        (k.bypassed = false ∧ (enable = false ∨ k.moveRuns.direction = none) ∧
          j = k.closed k.nextRuns.1 k.nextRuns.2 false k.quietRun ∧ e = none) ∨
        (k.bypassed = true ∧ k.quiet = false ∧ j = k.closed k.trunk.run k.exchange.run true 0 ∧ e = none) ∨
        (k.bypassed = true ∧ k.quiet = true ∧ k.quietRun + 1 < 50 ∧
          j = k.closed k.trunk.run k.exchange.run true (k.quietRun + 1) ∧ e = none) ∨
        (k.bypassed = true ∧ k.quiet = true ∧ 50 ≤ k.quietRun + 1 ∧ j = k.closed 0 0 false 0 ∧
          e = some .toneBypassOff)) := by
  cases bypassed : k.bypassed with
  | false =>
    cases hd : k.moveRuns.direction with
    | none => exact ⟨_, _, Tone.closes_quiet bypassed (.inr hd), .inr (.inl ⟨rfl, .inr rfl, rfl, rfl⟩)⟩
    | some d =>
      cases on : enable with
      | false => exact ⟨_, _, Tone.closes_quiet bypassed (.inl rfl), .inr (.inl ⟨rfl, .inl rfl, rfl, rfl⟩)⟩
      | true => exact ⟨_, _, Tone.closes_entering bypassed rfl hd, .inl ⟨rfl, rfl, d, rfl, rfl, rfl⟩⟩
  | true =>
    cases quiet : k.quiet with
    | false => exact ⟨_, _, Tone.closes_loud bypassed quiet, .inr (.inr (.inl ⟨rfl, rfl, rfl, rfl⟩))⟩
    | true =>
      by_cases long : 50 ≤ k.quietRun + 1
      · exact ⟨_, _, Tone.closes_released bypassed quiet long,
          .inr (.inr (.inr (.inr ⟨rfl, rfl, long, rfl, rfl⟩)))⟩
      · exact ⟨_, _, Tone.closes_waiting bypassed quiet (not_le.mp long),
          .inr (.inr (.inr (.inl ⟨rfl, rfl, not_le.mp long, rfl, rfl⟩)))⟩

end judge

/-! ### Convergence, level setting and the counts, in the statements' words -/

/-- An unqualified block, and a block of an UNTRAINED channel, move no run (R59, R60). -/
theorem Near.moveRuns_kept {n : Near} (h : ¬Qualified n ∨ n.conv = .untrained) :
    n.moveRuns n.classify = n := by
  obtain h | h := h
  · rw [Near.classify_unqualified h]
    unfold Near.moveRuns
    split <;> simp_all
  · unfold Near.moveRuns
    rw [h]

/-- The run a block end leaves to the convergence state machine (R59 to R61). -/
theorem Near.closeBlock_kept {n : Near} (h : ¬Qualified n ∨ n.conv = .untrained) :
    n.closeBlock = n.emptyBlock := by
  have quiet : ¬Recovers n := fun r => h.elim (fun q => q r.2.1.1) r.1
  rw [Near.closeBlock_runs quiet, Near.moveRuns_kept h]

theorem Near.moveRuns_converged_nonGood {n : Near} (conv : n.conv = .converged) :
    n.moveRuns .nonGood = { n.badBlock with divRun := 0 } := by
  unfold Near.moveRuns
  rw [conv]

theorem Near.moveRuns_converged_diverging {n : Near} (conv : n.conv = .converged) :
    n.moveRuns .diverging = { n.badBlock with divRun := n.divRun + 1 } := by
  unfold Near.moveRuns
  rw [conv]

/-- The fourth block in a row that is not good takes a CONVERGED channel back to CONVERGING (R60). -/
theorem Near.badBlock_runs (n : Near) (conv : n.conv = .converged) :
    if n.badRun + 1 < 4 then
      n.badBlock.conv = .converged ∧ n.badBlock.goodRun = n.goodRun ∧ n.badBlock.badRun = n.badRun + 1
    else n.badBlock.conv = .converging ∧ n.badBlock.goodRun = 0 ∧ n.badBlock.badRun = 0 := by
  unfold Near.badBlock
  by_cases long : 4 ≤ n.badRun + 1
  · rw [if_pos long, if_neg (not_lt.mpr long)]
    exact ⟨rfl, rfl, rfl⟩
  · rw [if_neg long, if_pos (not_le.mp long)]
    exact ⟨conv, rfl, rfl⟩

/-- The two ways of writing R97's rows agree. -/
theorem Level.closeBlock_eq_levelClosed (f : LevelFields) (may : Bool) (k : Level) :
    Level.closeBlock f may k = levelClosed f may k := by
  cases may with
  | false => rfl
  | true =>
    have long : 20 ≤ k.raiseRun + 1 ↔ ¬k.raiseRun < 19 := by omega
    simp only [Level.closeBlock, levelClosed, Level.control, Level.blockLevel, if_true, long, ite_not,
      Bool.true_eq_false, if_false]
    repeat' split
    all_goals rfl

theorem Channel.alcAllowed_eq_alcMay (f : LevelFields) (c : Channel) (held : Bool) :
    alcAllowed f c.alcOn held c.tone.bypassMark = alcMay f c held := by
  unfold alcAllowed alcMay Channel.alcOn
  cases c.custody <;> rfl

/-- TONE_ENTRIES counts a block end that hands a BYPASS_ON record (R76). -/
theorem Channel.closedStats_toneEntries {c : Channel} {j : Tone} {e : Option Event}
    (h : c.tone.ClosesTo c.params.toneEnable j e) :
    c.closedStats.toneEntries = counted 255 (e.any Event.entersBypass) c.stats.toneEntries := by
  rw [← countIf_eq_counted, ← h.2]
  rfl

theorem Tone.closed_directions (k : Tone) (a b : Nat) (bypassed : Bool) (q : Nat) :
    DirectionClosed k.trunk (k.closed a b bypassed q).trunk a ∧
      DirectionClosed k.exchange (k.closed a b bypassed q).exchange b :=
  ⟨⟨rfl, rfl, rfl, rfl, rfl⟩, rfl, rfl, rfl, rfl, rfl⟩

theorem Tone.quiet_iff (k : Tone) :
    k.quiet = true ↔ k.trunk.power < 200000 ∧ k.exchange.power < 200000 := by
  simp [Tone.quiet]

theorem Tone.nextRuns_after (k : Tone) :
    RunAfter k.observed k.trunk k.nextRuns.1 ∧ RunAfter k.observed k.exchange k.nextRuns.2 :=
  ⟨ToneDir.runAfter_moveRun .., ToneDir.runAfter_moveRun ..⟩

end Sys2Proof.Machine

open Sys2Proof Sys2Proof.Machine Sys2Proof.Claims

/-- Settles O16: an inequality between whole numbers for each of the thirteen indices. -/
theorem gainTableRoundsTheVoltageRatio : Obligations.GainTableRoundsTheVoltageRatio := by
  unfold Obligations.GainTableRoundsTheVoltageRatio
  decide

/-- Settles O17: an IDLE channel has no tone event and no recovery, so only the capture is handed. -/
theorem idleBlockEndEmptiesTheBlock : Obligations.IdleBlockEndEmptiesTheBlock := by
  refine ⟨fun s ch due idle => ?_, fun s ch h => exec_blockEnd_ignored h⟩
  have quiet := (Channel.active_eq_false_iff (s.chan ch)).mpr idle
  have noRecovery : (s.chan ch).recovers = false := by simp [Channel.recovers, quiet]
  have noTone : (s.chan ch).toneEvent = none := by simp [Channel.toneEvent, quiet]
  rw [exec_blockEnd_due due, State.blockEnd, noRecovery, noTone, Channel.closeBlock_idle idle]
  rfl

/-- Settles O18: the class of the block and the convergence state pick the row of `Near.moveRuns`. -/
theorem blockEndMovesConvergence : Obligations.BlockEndMovesConvergence := by
  intro s ch due use
  refine ⟨_, exec_blockEnd_due due, ?_⟩
  rw [State.blockEnd_chan_active use]
  dsimp only [Channel.closeActive, Channel.closedStats]
  generalize (s.chan ch).near = n
  simp only [countIf_eq_counted]
  obtain ⟨ps, pe, nsc, ac, nlp, hang, blank, -⟩ := n.closeBlock_frame
  refine ⟨ps, pe, nsc, ac, nlp, hang, blank, trivial, fun good => ?_, fun bad => ?_, fun kept => ?_,
    fun conv good => ?_, fun conv bad => ?_, fun conv good => ?_, fun conv bad calm => ?_,
    fun conv bad calm => ?_, fun r => ?_, fun calm => ?_⟩
  · rw [Near.classify_good good]
    rfl
  · rw [decide_eq_false (mt n.classify_good_iff.mp bad)]
    rfl
  · rw [Near.closeBlock_kept kept]
    exact ⟨rfl, rfl, rfl, rfl⟩
  · rw [Near.closeBlock_runs (Near.not_recovers_of_good good),
      Near.classify_good good]
    by_cases short : n.goodRun + 1 < 8
    · have long : ¬8 ≤ n.goodRun + 1 := by omega
      simp [Near.moveRuns, conv, short, long, Near.emptyBlock, Near.emptySums]
    · have long : 8 ≤ n.goodRun + 1 := by omega
      simp [Near.moveRuns, conv, short, long, Near.emptyBlock, Near.emptySums]
  · rw [Near.closeBlock_runs (Near.not_recovers_of_nonGood bad),
      Near.classify_nonGood bad]
    simp [Near.moveRuns, conv, Near.emptyBlock, Near.emptySums]
  · rw [Near.closeBlock_runs (Near.not_recovers_of_good good),
      Near.classify_good good]
    simp [Near.moveRuns, conv, Near.emptyBlock, Near.emptySums]
  · rw [Near.closeBlock_runs calm]
    obtain bad | bad := bad
    · rw [Near.classify_nonGood bad, Near.moveRuns_converged_nonGood conv]
      exact ⟨fun _ => rfl, fun loud => absurd loud (Near.not_diverging_of_nonGood bad), n.badBlock_runs conv⟩
    · rw [Near.classify_diverging bad, Near.moveRuns_converged_diverging conv]
      exact ⟨fun calm => absurd bad (Near.not_diverging_of_nonGood calm), fun _ => rfl, n.badBlock_runs conv⟩
  · rw [Near.closeBlock_runs calm, Near.classify_diverging bad]
    simp [Near.moveRuns, conv, Near.emptyBlock, Near.emptySums]
  · rw [Near.closeBlock_recovers r, n.recovers_iff.mpr r]
    exact ⟨rfl, rfl, rfl, rfl, rfl, rfl⟩
  · rw [eq_false_of_ne_true (mt n.recovers_iff.mp calm)]
    exact ⟨rfl, rfl⟩

/-- Settles O20. -/
theorem blockEndSetsTheLevels : Obligations.BlockEndSetsTheLevels := by
  intro s ch due use
  refine ⟨_, exec_blockEnd_due due, ?_⟩
  rw [State.blockEnd_chan_active use]
  dsimp only [Channel.closeActive]
  simp only [Level.closeBlock_eq_levelClosed, Channel.alcAllowed_eq_alcMay]
  exact ⟨trivial, trivial⟩
end

section
/-! PROOFS. Block ends: the tone judgement in the statements' words, and the records in their order (chapters 4 and 9). -/

namespace Sys2Proof.Machine

open Sys2Proof.Claims

/-- A run stands at 80 in some direction exactly when R76 names one. -/
theorem Tone.moveRuns_direction (k : Tone) :
    k.moveRuns.direction.isSome = true ↔ k.nextRuns.1 = 80 ∨ k.nextRuns.2 = 80 :=
  k.moveRuns.direction_isSome

/-- The direction that a BYPASS_ON record names, from the two runs (R76). -/
theorem Tone.direction_eq {k : Tone} {d : ToneDirection} (h : k.direction = some d) :
    (if k.trunk.run = 80 ∧ k.exchange.run = 80 then some (Event.toneBypassOn .both)
      else if k.trunk.run = 80 then some (.toneBypassOn .trunk)
      else some (.toneBypassOn .exchange)) = some (.toneBypassOn d) := by
  unfold Tone.direction at h
  split at h
  all_goals simp_all

/-- The record of a tone state change is the one that the runs name (R76, R78). -/
theorem Channel.toneRecord_eq {c v : Channel} {e : Option Event}
    (h : c.tone.ClosesTo c.params.toneEnable v.tone e) : toneRecord c v = e := by
  obtain ⟨j, e', ⟨hj, he⟩, cases⟩ := c.tone.closes_cases c.params.toneEnable
  obtain ⟨hv, rfl⟩ := h
  rw [he, toneRecord, ← hv, hj]
  obtain ⟨quiet, -, d, hd, rfl, rfl⟩ | ⟨quiet, -, rfl, rfl⟩ | ⟨on, -, rfl, rfl⟩ | ⟨on, -, -, rfl, rfl⟩ |
    ⟨on, -, -, rfl, rfl⟩ := cases
  · rw [if_pos ⟨quiet, rfl⟩]
    exact Tone.direction_eq hd
  · simp [quiet, Tone.closed]
  · simp [on, Tone.closed]
  · simp [on, Tone.closed]
  · simp [on, Tone.closed]

theorem Channel.recovers_iff {c : Channel} (use : c.custody ≠ .idle) : c.recovers = true ↔ Recovers c.near := by
  rw [Channel.recovers, c.active_iff.mpr use, Bool.true_and, c.near.recovers_iff]

/-! ### Reports to the links -/

theorem linksReported_of_links {s u : State} (h : u.links = s.links) : LinksReported s u := fun l =>
  ⟨_, _, _, show u.link l = s.link l by rw [State.link, State.link, h]⟩

theorem linksReported_trans {s t u : State} (h : LinksReported s t) (k : LinksReported t u) :
    LinksReported s u := fun l => by
  obtain ⟨_, _, _, first⟩ := h l
  obtain ⟨owned, oldest, line, second⟩ := k l
  exact ⟨owned, oldest, line, by rw [second, first]⟩

theorem State.handEvent?_linksReported (s : State) (ch : Option ChannelNo) (e : Option Event) :
    LinksReported s (s.handEvent? ch e) := by
  cases e
  · exact linksReported_of_links rfl
  · exact s.withRing_linksReported _

theorem State.handEvent?_ring (s : State) (ch : Option ChannelNo) (e : Option Event) :
    (s.handEvent? ch e).ring =
      match e with
        | some e => s.ring.put s.stamp .mLink ch (.event e)
        | none => s.ring := by
  cases e <;> rfl

theorem State.handEvent?_stamp (s : State) (ch : Option ChannelNo) (e : Option Event) :
    (s.handEvent? ch e).stamp = s.stamp := by
  cases e <;> rfl

/-- The DIVERGED record of a block end, if there is one (R62). -/
def Channel.divergedEvent (c : Channel) : Option Event :=
  if c.recovers then some (.diverged (satInc 255 c.stats.divergences)) else none

/-- A block end is the capture, the channel's own work and two hand-overs (R189). -/
theorem State.blockEnd_eq (s : State) (ch : ChannelNo) :
    s.blockEnd ch =
      (((s.captured ch).setChan ch (Channel.closeBlock (s.heldOf (s.chan ch).profile) (s.chan ch))).handEvent?
        (some ch) (s.chan ch).divergedEvent).handEvent? (some ch) (s.chan ch).toneEvent := by
  unfold State.blockEnd Channel.divergedEvent
  dsimp only
  split <;> rfl

theorem State.captured_linksReported (s : State) (ch : ChannelNo) : LinksReported s (s.captured ch) := by
  unfold State.captured
  split
  · exact s.withRing_linksReported _
  · exact linksReported_of_links rfl

theorem State.blockEnd_linksReported (s : State) (ch : ChannelNo) : LinksReported s (s.blockEnd ch) := by
  rw [State.blockEnd_eq]
  refine linksReported_trans ?_ (State.handEvent?_linksReported _ _ _)
  refine linksReported_trans ?_ (State.handEvent?_linksReported _ _ _)
  exact linksReported_trans (s.captured_linksReported ch) (linksReported_of_links rfl)

theorem State.blockEnd_onlyChannel (s : State) (ch : ChannelNo) : OnlyChannel ch s (s.blockEnd ch) := by
  refine ⟨?_, ?_, ?_, ?_, ?_, ?_, ?_, ?_, ?_, ?_, fun k other => ?_⟩
  case refine_11 => rw [State.blockEnd_chan, if_neg other.symm]
  all_goals simp

/-- The ring after the capture and the DIVERGED record of a block end (R189). -/
def State.divergedRing (s : State) (ch : ChannelNo) : Ring :=
  match (s.chan ch).divergedEvent with
  | some e => (s.capturedRing ch).put s.stamp .mLink (some ch) (.event e)
  | none => s.capturedRing ch

theorem State.blockEnd_ring (s : State) (ch : ChannelNo) :
    (s.blockEnd ch).ring =
      match (s.chan ch).toneEvent with
        | some e => (s.divergedRing ch).put s.stamp .mLink (some ch) (.event e)
        | none => s.divergedRing ch := by
  have stamp : (s.captured ch).stamp = s.stamp := by
    unfold State.captured
    split <;> rfl
  have opened : (((s.captured ch).setChan ch
      (Channel.closeBlock (s.heldOf (s.chan ch).profile) (s.chan ch))).handEvent?
        (some ch) (s.chan ch).divergedEvent).ring = s.divergedRing ch := by
    rw [State.handEvent?_ring, State.divergedRing, ← stamp, ← State.captured_ring]
    rfl
  rw [State.blockEnd_eq, State.handEvent?_ring, opened, State.handEvent?_stamp, ← stamp]
  rfl

end Sys2Proof.Machine

open Sys2Proof Sys2Proof.Machine Sys2Proof.Claims

/-- Settles O19: the five cases of `Tone.closes_cases`. -/
theorem blockEndJudgesTheTone : Obligations.BlockEndJudgesTheTone := by
  intro s ch due use
  refine ⟨_, exec_blockEnd_due due, ?_⟩
  rw [State.blockEnd_chan_active use]
  obtain ⟨j, e, closes, cases⟩ := (s.chan ch).tone.closes_cases (s.chan ch).params.toneEnable
  have entries := Channel.closedStats_toneEntries closes
  have tone : (s.chan ch).toneJudged.1.emptyBlock = j := closes.1
  dsimp only [Channel.closeActive]
  rw [tone, entries]
  generalize (s.chan ch).params.toneEnable = enable at *
  clear closes entries tone
  generalize (s.chan ch).tone = k at *
  obtain ⟨quiet, rfl, d, hd, rfl, rfl⟩ | ⟨quiet, off, rfl, rfl⟩ | ⟨on, loud, rfl, rfl⟩ |
    ⟨on, hush, short, rfl, rfl⟩ | ⟨on, hush, long, rfl, rfl⟩ := cases
  · refine ⟨rfl, rfl, (k.closed_directions ..).1, (k.closed_directions ..).2, fun _ => ?_,
      fun on => absurd (quiet.symm.trans on) (by decide)⟩
    have at80 := k.moveRuns_direction.mp (Option.isSome_iff_exists.mpr ⟨d, hd⟩)
    exact ⟨k.nextRuns_after.1, k.nextRuns_after.2, ⟨fun _ => ⟨rfl, at80⟩, fun _ => rfl⟩, rfl, rfl⟩
  · refine ⟨rfl, rfl, (k.closed_directions ..).1, (k.closed_directions ..).2, fun _ => ?_,
      fun on => absurd (quiet.symm.trans on) (by decide)⟩
    refine ⟨k.nextRuns_after.1, k.nextRuns_after.2, ⟨fun h => absurd h Bool.false_ne_true, fun h => ?_⟩, rfl,
      rfl⟩
    have some := k.moveRuns_direction.mpr h.2
    obtain off | off := off
    · exact absurd (off.symm.trans h.1) (by decide)
    · exact absurd (off ▸ some) (by decide)
  · refine ⟨rfl, rfl, (k.closed_directions ..).1, (k.closed_directions ..).2,
      fun quiet => absurd (quiet.symm.trans on) (by decide), fun _ => ⟨rfl, ?_⟩⟩
    rw [if_neg (mt k.quiet_iff.mpr (ne_true_of_eq_false loud))]
    exact ⟨rfl, rfl, rfl, rfl⟩
  · refine ⟨rfl, rfl, (k.closed_directions ..).1, (k.closed_directions ..).2,
      fun quiet => absurd (quiet.symm.trans on) (by decide), fun _ => ⟨rfl, ?_⟩⟩
    rw [if_pos (k.quiet_iff.mp hush), if_pos short]
    exact ⟨rfl, rfl, rfl, rfl⟩
  · refine ⟨rfl, rfl, (k.closed_directions ..).1, (k.closed_directions ..).2,
      fun quiet => absurd (quiet.symm.trans on) (by decide), fun _ => ⟨rfl, ?_⟩⟩
    rw [if_pos (k.quiet_iff.mp hush), if_neg (by omega)]
    exact ⟨rfl, rfl, rfl, rfl⟩

/-- Settles O21: `State.blockEnd_ring` is the order of the three records. -/
theorem blockEndHandsItsRecordsInOrder : Obligations.BlockEndHandsItsRecordsInOrder := by
  intro s ch due use
  have chan := State.blockEnd_chan_active use
  have active : (s.chan ch).active = true := (s.chan ch).active_iff.mpr use
  have tone : (s.chan ch).tone.ClosesTo (s.chan ch).params.toneEnable ((s.blockEnd ch).chan ch).tone
      (s.chan ch).toneEvent := by
    rw [chan, Channel.toneEvent, if_pos active]
    exact ⟨rfl, rfl⟩
  refine ⟨_, _, s.divergedRing ch, exec_blockEnd_due due, s.blockEnd_onlyChannel ch,
    s.blockEnd_linksReported ch, rfl, fun r => ?_, fun calm => ?_, ?_, ?_, ?_⟩
  · have counts : ((s.blockEnd ch).chan ch).stats.divergences = satInc 255 (s.chan ch).stats.divergences := by
      rw [chan]
      exact if_pos ((s.chan ch).near.recovers_iff.mpr r)
    rw [counts, State.divergedRing, Channel.divergedEvent, if_pos ((Channel.recovers_iff use).mpr r)]
    rfl
  · rw [State.divergedRing, Channel.divergedEvent, if_neg (mt (Channel.recovers_iff use).mp calm)]
    rfl
  · rw [Channel.toneRecord_eq tone]
    exact s.blockEnd_ring ch
  · rw [chan]
    rfl
  · rw [chan]
    exact ((s.chan ch).near.closeBlock_frame).2.2.2.2.2.2.2
end

section
/-! PROOFS. Captures in the ring (chapter 9). -/

namespace Sys2Proof.Machine

open Sys2Proof.Claims

section capture

variable {r : Ring} {stamp : Stamp} {ch : ChannelNo} {k : Channel} {n c : Nat}

theorem Ring.putCapture_dropped (free : r.freeRun = 0) : r.putCapture stamp ch k = r.drop .mLink :=
  if_pos (by rw [free, Nat.min_zero])

theorem Ring.putCapture_written (hn : n = k.params.window / 64) (one : 1 ≤ n) (free : r.freeRun = c)
    (room : 0 < c) :
    r.putCapture stamp ch k =
      Ring.advance .mLink (min n c) { r with slots := r.captureSlots stamp ch k n (min n c) (min n c) } := by
  subst hn free
  exact if_neg (by omega)

/-- A slot's mark of truncation, with the number of written slots as the least of those needed and those free. -/
theorem Ring.captureRecord_truncated (j : Nat) :
    (r.captureRecord stamp ch k n (min n c) j).truncated = decide (j + 1 = min n c ∧ c < n) := by
  have cut : min n c < n ↔ c < n := by omega
  simp only [Ring.captureRecord, cut, Bool.decide_and]

end capture

/-- A capture slot of eight or fewer holds 64 of the 512 taps (R190). -/
theorem Echo.captureTaps_length (e : Echo) {n j : Nat} (hn : n ≤ 8) (hj : j < n) :
    ((e.taps.data.drop (64 * j)).take 64).length = 64 := by
  have := e.taps.size
  rw [List.length_take, List.length_drop]
  omega

end Sys2Proof.Machine

open Sys2Proof Sys2Proof.Machine Sys2Proof.Claims

/-- Settles O23: `Ring.freeRun_eq` counts the free slots, and `Ring.captureSlots_get` reads what is written. -/
theorem captureIsWholeTruncatedOrDropped : Obligations.CaptureIsWholeTruncatedOrDropped := by
  intro r stamp ch k c n w hn one hc hw free stop
  subst hw
  have run := r.freeRun_eq c hc free stop
  refine ⟨fun small j hj => k.echo.captureTaps_length small (j := j) (by omega), fun full => ?_, fun room => ?_⟩
  · rw [Ring.putCapture_dropped (run.trans full)]
    rfl
  · rw [Ring.putCapture_written hn one run room]
    have slots := r.captureSlots_get stamp ch k n (min n c) (min n c) (by omega)
    refine ⟨rfl, rfl, rfl, fun j hj => ?_, fun j out hj => ?_⟩
    · refine ((slots j (by omega)).trans (if_pos hj)).trans ?_
      congr 1
      rw [← Ring.captureRecord_truncated (r := r) (stamp := stamp) (ch := ch) (k := k)]
      rfl
    · exact (slots j hj).trans (if_neg (by omega))
end

section
/-! PROOFS. Second ticks (chapters 6 to 8): the clock's carries, the schedule's choice, and the switches of the groups. -/

namespace Sys2Proof.Machine

open Sys2Proof.Claims

/-! ### The tick is taken, or not -/

theorem exec_secondTick_due {s : State} (run : Running s) (due : s.tickDue = true) :
    exec .secondTick s = .next s.secondTick :=
  congrArg _ (if_neg (by simp [run.1, run.2, due]))

theorem exec_secondTick_ignored {s : State} (h : s.highway.lock ≠ .locked ∨ s.tickDue = false) :
    exec .secondTick s = .next s := by
  refine congrArg _ (if_pos ?_)
  obtain h | h := h <;> simp [h]

/-- The part at a tick before the schedule is looked at (R130, R163). -/
def State.ticked (s : State) : State :=
  { s.mapChans Channel.countSecond with clock := s.clock.tick, tickDue := false }

/-- The switch records of a tick in the order in which they are handed (R187). -/
def State.tickRecords (s : State) : List (GroupNo × Event) :=
  freeOrder s.freeDraws (tickEvents s.ticked s.ticked.evaluate)

theorem State.secondTick_eq (s : State) :
    s.secondTick = { s.ticked.evaluate.handAll s.tickRecords with freeDraws := s.freeDraws + 1 } := rfl

theorem State.secondTick_clock (s : State) : s.secondTick.clock = s.clock.tick := by
  simp [State.secondTick]

theorem State.secondTick_tickDue (s : State) : s.secondTick.tickDue = false := by
  simp [State.secondTick]

theorem State.secondTick_groups (s : State) : s.secondTick.groups = s.ticked.evaluate.groups := by
  simp [State.secondTick_eq]

theorem State.secondTick_channels (s : State) : s.secondTick.channels = s.ticked.evaluate.channels := by
  simp [State.secondTick_eq]

/-! ### The clock (R163, R164) -/

/-- The day's carries: the date and the weekday after midnight. -/
theorem Clock.nextDay_eq (k : Clock) :
    k.nextDay =
      let monthOver := k.day + 1 > monthLength k.year k.month
      let yearOver := monthOver ∧ k.month + 1 > 12
      { k with
        weekday := if k.weekday + 1 > 6 then 0 else k.weekday + 1
        day := if monthOver then 1 else k.day + 1
        month := if yearOver then 1 else if monthOver then k.month + 1 else k.month
        year := if yearOver then (if k.year + 1 > 99 then 0 else k.year + 1) else k.year } := by
  have weekday : (6 ≤ k.weekday) = (k.weekday + 1 > 6) := propext (by omega)
  have century : (99 ≤ k.year) = (k.year + 1 > 99) := propext (by omega)
  simp only [Clock.nextDay, weekday, century]
  by_cases month : k.day + 1 > monthLength k.year k.month
  · by_cases year : k.month + 1 > 12
    · simp [month, year, not_le.mpr month, not_le.mpr year]
    · simp [month, year, not_le.mpr month, not_lt.mp year]
  · simp [month, not_lt.mp month]

/-- The advance of R163 with each carry as a condition of its own. -/
theorem Clock.tick_eq (k : Clock) :
    k.tick =
      let minuteOver := k.time.second + 1 > 59
      let hourOver := minuteOver ∧ k.time.minute + 1 > 59
      let midnight := hourOver ∧ k.time.hour + 1 > 23
      let monthOver := midnight ∧ k.day + 1 > (monthLength k.year k.month)
      let yearOver := monthOver ∧ k.month + 1 > 12
      { state := k.state
        fis := 0
        time :=
          { second := if minuteOver then 0 else k.time.second + 1
            minute := if hourOver then 0 else if minuteOver then k.time.minute + 1 else k.time.minute
            hour := if midnight then 0 else if hourOver then k.time.hour + 1 else k.time.hour }
        weekday := if midnight then (if k.weekday + 1 > 6 then 0 else k.weekday + 1) else k.weekday
        day := if monthOver then 1 else if midnight then k.day + 1 else k.day
        month := if yearOver then 1 else if monthOver then k.month + 1 else k.month
        year := if yearOver then (if k.year + 1 > 99 then 0 else k.year + 1) else k.year } := by
  by_cases second : k.time.second + 1 > 59
  · by_cases minute : k.time.minute + 1 > 59
    · by_cases hour : k.time.hour + 1 > 23
      · simp only [Clock.tick, if_neg (not_le.mpr second), if_neg (not_le.mpr minute),
          if_neg (not_le.mpr hour), Clock.nextDay_eq, second, minute, hour, true_and, and_true, if_true]
      · simp [Clock.tick, second, minute, hour, not_le.mpr second, not_le.mpr minute, not_lt.mp hour]
    · simp [Clock.tick, second, minute, not_le.mpr second, not_lt.mp minute]
  · simp [Clock.tick, second, not_lt.mp second]

theorem Channel.countSecond_stats (c : Channel) :
    c.countSecond.stats = { c.stats with duration := counted 65535 (inUse c) c.stats.duration } := by
  rw [Channel.countSecond, Channel.active_eq_inUse, ← countIf_eq_counted]
  cases inUse c <;> rfl

/-! ### The schedule's choice (R175) -/

/-- The profile of the lowest-numbered matching entry, or the default. -/
theorem State.selects_scheduled (s : State) (g : GroupNo) : Scheduled s s.clock g (s.selects g) := by
  unfold State.selects Scheduled
  by_cases unset : s.clock.state = .unset
  · rw [if_pos unset, if_pos unset]
  · rw [if_neg unset, if_neg unset]
    have picks (i : EntryNo) :
        ((s.schedule.get i).group == g && (s.schedule.get i).matchesAt s.clock.time s.clock.weekday) = true ↔
          (s.schedule.get i).group = g ∧ Matches (s.schedule.get i) s.clock.time s.clock.weekday := by
      rw [Bool.and_eq_true, beq_iff_eq, Entry.matchesAt_iff]
    split
    · rename_i e found
      obtain ⟨pick, i, hi, rfl, before⟩ := List.find?_eq_some_iff_getElem.mp found
      let first : EntryNo := ⟨i, s.schedule.size ▸ hi⟩
      obtain ⟨group, hits⟩ := (picks first).mp pick
      exact .inl ⟨first, group, hits, fun j hj hit =>
        ne_true_of_eq_false ((Bool.not_eq_true' _).mp (before j hj)) ((picks j).mpr hit), rfl⟩
    · rename_i missed
      refine .inr ⟨fun i => ?_, rfl⟩
      rw [← picks i]
      exact List.find?_eq_none.mp missed _ (Table.get_mem _ i)

/-! ### The groups and their channels (R151, R154, R175) -/

/-- A group after its evaluation. -/
def State.evaluatedGroup (s : State) (g : GroupNo) : Group :=
  { s.groups.get g with
    scheduled := s.selects g, applied := topOr (s.groups.get g).stack (s.selects g) }

theorem State.evaluateGroup_groups (s : State) (g k : GroupNo) :
    (s.evaluateGroup g).groups.get k = if g = k then s.evaluatedGroup k else s.groups.get k := by
  rw [State.evaluateGroup, State.regroup_groups, appliedOf_eq_topOr]
  split
  · rename_i same
    subst same
    rfl
  · rfl

/-- An evaluation moves neither the defaults nor the schedule, so it leaves every choice as it was. -/
theorem State.evaluateGroup_selects (s : State) (g k : GroupNo) :
    (s.evaluateGroup g).selects k = s.selects k := by
  have default : ((s.evaluateGroup g).groups.get k).default = (s.groups.get k).default := by
    rw [State.evaluateGroup_groups]
    split <;> rfl
  simp [State.selects, default]

theorem State.evaluateGroup_evaluatedGroup (s : State) (g k : GroupNo) :
    (s.evaluateGroup g).evaluatedGroup k = s.evaluatedGroup k := by
  rw [State.evaluatedGroup, State.evaluateGroup_selects, State.evaluateGroup_groups]
  split <;> rfl

/-- The groups after some of them were evaluated. -/
theorem State.evaluateAll_groups (gs : List GroupNo) (k : GroupNo) :
    ∀ s : State, (gs.foldl State.evaluateGroup s).groups.get k =
      if k ∈ gs then s.evaluatedGroup k else s.groups.get k := by
  induction gs with
  | nil => exact fun s => rfl
  | cons g gs ih =>
    intro s
    rw [List.foldl_cons, ih, State.evaluateGroup_evaluatedGroup, State.evaluateGroup_groups]
    by_cases same : g = k
    · simp [same]
    · simp [same, Ne.symm same]

/-- A channel after its group's applied profile became `now` (R151). -/
def switchedTo (s : State) (now : ProfileNo) (c : Channel) : Channel :=
  if now = (s.groups.get c.group).applied then c else applied now (s.profiles.get now).fields c

theorem State.evaluateGroup_chan (s : State) (g : GroupNo) (ch : ChannelNo) :
    (s.evaluateGroup g).chan ch =
      if (s.chan ch).group = g then switchedTo s (s.evaluatedGroup g).applied (s.chan ch) else s.chan ch := by
  rw [State.evaluateGroup, State.regroup_chan, appliedOf_eq_topOr, Channel.applyProfile_eq_applied]
  unfold switchedTo
  by_cases mine : (s.chan ch).group = g
  · subst mine
    simp only [ne_eq, true_and, ite_not, if_true]
    rfl
  · rw [if_neg (fun h => mine h.1), if_neg mine]

/-- An apply moves neither the channel's group nor its statistics (R145 to R147). -/
theorem Channel.applyProfile_keeps (n : ProfileNo) (q : ParamSet) (c : Channel) :
    (Channel.applyProfile n q c).group = c.group ∧ (Channel.applyProfile n q c).stats = c.stats :=
  ⟨rfl, rfl⟩

theorem switchedTo_keeps (s : State) (now : ProfileNo) (c : Channel) :
    (switchedTo s now c).group = c.group ∧ (switchedTo s now c).stats = c.stats := by
  unfold switchedTo
  split
  · exact ⟨rfl, rfl⟩
  · rw [← Channel.applyProfile_eq_applied]
    exact Channel.applyProfile_keeps ..

/-- The evaluation of another group leaves what a switch would do to a channel. -/
theorem switchedTo_evaluateGroup (s : State) (now : ProfileNo) {g : GroupNo} {c : Channel} (h : c.group ≠ g) :
    switchedTo (s.evaluateGroup g) now c = switchedTo s now c := by
  unfold switchedTo
  rw [State.evaluateGroup_groups, if_neg h.symm, State.evaluateGroup_profiles]

/-- The channels after some groups, each named once, were evaluated. -/
theorem State.evaluateAll_chan (gs : List GroupNo) (once : gs.Nodup) (ch : ChannelNo) :
    ∀ s : State, (gs.foldl State.evaluateGroup s).chan ch =
      if (s.chan ch).group ∈ gs then
        switchedTo s (s.evaluatedGroup (s.chan ch).group).applied (s.chan ch)
      else s.chan ch := by
  induction gs with
  | nil => exact fun s => rfl
  | cons g gs ih =>
    intro s
    obtain ⟨notAgain, rest⟩ := List.nodup_cons.mp once
    rw [List.foldl_cons, ih rest, State.evaluateGroup_chan]
    by_cases mine : (s.chan ch).group = g
    · rw [if_pos mine, (switchedTo_keeps _ _ _).1, mine, if_neg notAgain, if_pos (List.mem_cons_self ..)]
    · rw [if_neg mine, State.evaluateGroup_evaluatedGroup, switchedTo_evaluateGroup _ _ mine]
      simp only [List.mem_cons, mine, false_or]

/-! ### The records (R151, R187) -/

theorem insertByRank_perm (rank : GroupNo → Nat) (a : GroupNo × Event) (es : List (GroupNo × Event)) :
    (insertByRank rank a es).Perm (a :: es) := by
  induction es with
  | nil => exact .refl _
  | cons b bs ih =>
    unfold insertByRank
    split
    · exact .refl _
    · exact (ih.cons b).trans (.swap a b bs)

/-- Whatever the free draw, the records that are handed are those of the switches (R187). -/
theorem freeOrder_perm (draw : Nat) (es : List (GroupNo × Event)) : (freeOrder draw es).Perm es := by
  have sorted (l : List (GroupNo × Event)) :
      (l.foldr (insertByRank (Config.switchRank draw)) []).Perm l := by
    induction l with
    | nil => exact .refl _
    | cons e l ih => exact (insertByRank_perm _ e _).trans (ih.cons e)
  unfold freeOrder
  split
  · exact .refl _
  · exact .refl _
  · exact sorted _

/-- The groups whose records a tick hands are those whose applied profile changed (R151). -/
theorem tickEvents_groups (s u : State) :
    (tickEvents s u).map Prod.fst =
      allGroups.filter fun g => decide ((s.groups.get g).applied ≠ (u.groups.get g).applied) := by
  rw [tickEvents, List.map_filterMap, ← List.filterMap_eq_filter]
  refine List.filterMap_congr fun g _ => ?_
  unfold switchEvent
  by_cases same : (s.groups.get g).applied = (u.groups.get g).applied <;> simp [same, Option.guard]

/-- The record of a group's switch at a tick. -/
def switchRecord (s u : State) (g : GroupNo) : Event :=
  .profileSwitched g (s.groups.get g).applied (u.groups.get g).applied .schedule

theorem tickEvents_event {s u : State} {e : GroupNo × Event} (h : e ∈ tickEvents s u) :
    e.2 = switchRecord s u e.1 := by
  obtain ⟨g, -, hg⟩ := List.mem_filterMap.mp h
  obtain ⟨record, made, rfl⟩ := Option.map_eq_some_iff.mp hg
  unfold switchEvent at made
  split at made
  · exact absurd made (by simp)
  · exact (Option.some.inj made).symm

theorem State.handAll_ring (es : List (GroupNo × Event)) :
    ∀ s : State, (s.handAll es).ring =
      es.foldl (fun r e => r.put s.stamp .mLink none (.event e.2)) s.ring := by
  induction es with
  | nil => exact fun s => rfl
  | cons e es ih => exact fun s => ih _

theorem State.handAll_linksReported (es : List (GroupNo × Event)) :
    ∀ s : State, LinksReported s (s.handAll es) := by
  induction es with
  | nil => exact fun s => linksReported_of_links rfl
  | cons e es ih => exact fun s => linksReported_trans (s.withRing_linksReported _) (ih _)

/-! ### The whole tick -/

theorem mem_allGroups (g : GroupNo) : g ∈ allGroups := by
  revert g
  decide

theorem State.secondTick_group (s : State) (g : GroupNo) :
    s.secondTick.groups.get g = s.ticked.evaluatedGroup g := by
  rw [State.secondTick_groups, State.evaluate, State.evaluateAll_groups, if_pos (mem_allGroups g)]

theorem State.ticked_chan (s : State) (ch : ChannelNo) : s.ticked.chan ch = (s.chan ch).countSecond :=
  s.chan_mapChans ..

theorem State.secondTick_chan (s : State) (ch : ChannelNo) :
    s.secondTick.chan ch =
      switchedTo s.ticked (s.ticked.evaluatedGroup (s.chan ch).countSecond.group).applied
        (s.chan ch).countSecond := by
  have all := State.evaluateAll_chan allGroups (by decide) ch s.ticked
  rw [if_pos (mem_allGroups _), State.ticked_chan] at all
  rw [← all, State.chan, State.secondTick_channels]
  rfl

theorem State.secondTick_stats (s : State) (ch : ChannelNo) :
    (s.secondTick.chan ch).stats = (s.chan ch).countSecond.stats := by
  rw [State.secondTick_chan]
  exact (switchedTo_keeps _ _ _).2

/-- Only the statistics of a channel count at a tick. -/
theorem Channel.countSecond_eq (c : Channel) : c.countSecond = { c with stats := c.countSecond.stats } := by
  unfold Channel.countSecond
  split <;> rfl

/-- The groups of the handed records, in the order in which they are handed. -/
def State.tickOrder (s : State) : List GroupNo := s.tickRecords.map Prod.fst

theorem State.tickOrder_perm (s : State) :
    s.tickOrder.Perm
      (allGroups.filter fun g => decide ((s.groups.get g).applied ≠ (s.secondTick.groups.get g).applied)) := by
  rw [State.secondTick_groups, State.tickOrder, State.tickRecords]
  refine ((freeOrder_perm _ _).map _).trans ?_
  rw [tickEvents_groups]
  exact .refl _

theorem State.secondTick_ring (s : State) :
    s.secondTick.ring =
      s.tickOrder.foldl
        (fun r g =>
          r.put { time := s.secondTick.clock.time, fis := s.secondTick.clock.fis } .mLink none
            (.event (switchRecord s s.secondTick g)))
        s.ring := by
  have records : ∀ e ∈ s.tickRecords, e.2 = switchRecord s s.secondTick e.1 := fun e h => by
    rw [switchRecord, State.secondTick_groups]
    exact tickEvents_event ((freeOrder_perm _ _).mem_iff.mp h)
  rw [State.tickOrder, List.foldl_map, State.secondTick_clock]
  refine (State.handAll_ring s.tickRecords s.ticked.evaluate).trans ?_
  rw [State.stamp, State.evaluate_clock, State.evaluate_ring]
  exact List.foldl_ext _ _ _ fun r e h => by rw [records e h]; rfl

theorem State.secondTick_linksReported (s : State) : LinksReported s s.secondTick := by
  have evaluated : LinksReported s s.ticked.evaluate :=
    linksReported_of_links (State.evaluate_links _)
  exact linksReported_trans evaluated (State.handAll_linksReported s.tickRecords s.ticked.evaluate)

end Sys2Proof.Machine

open Sys2Proof Sys2Proof.Machine Sys2Proof.Claims

/-- Settles O24: `Clock.tick_eq` and `Channel.countSecond_stats`. -/
theorem secondTickAdvancesTheClock : Obligations.SecondTickAdvancesTheClock := by
  refine ⟨fun s run due => ?_, fun s h => exec_secondTick_ignored h⟩
  refine ⟨_, exec_secondTick_due run due, s.secondTick_tickDue, ?_, fun year month one twelve => ?_, fun ch => ?_⟩
  · rw [State.secondTick_clock, Clock.tick_eq]
  · exact monthLength_eq_daysOf year one twelve
  · rw [State.secondTick_stats, Channel.countSecond_stats]

/-- Settles O25: the groups are `State.secondTick_group`, the channels `State.secondTick_chan`, and the records
`State.secondTick_ring` in the order `State.tickOrder`. -/
theorem secondTickEvaluatesTheSchedule : Obligations.SecondTickEvaluatesTheSchedule := by
  intro s run due
  refine ⟨_, s.tickOrder, exec_secondTick_due run due, fun g => ⟨s.ticked.selects g, ?_, s.secondTick_group g⟩,
    fun ch => ?_, ?_, fun g => ?_, s.secondTick_ring, s.secondTick_linksReported, s.secondTick_highway,
    s.secondTick_schedule, s.secondTick_profiles, s.secondTick_resetAsserted, s.secondTick_restartPending,
    s.secondTick_pending⟩
  · rw [State.secondTick_clock]
    exact s.ticked.selects_scheduled g
  · rw [State.secondTick_stats, ← Channel.countSecond_eq]
    dsimp only
    rw [State.secondTick_group]
    exact s.secondTick_chan ch
  · exact s.tickOrder_perm.nodup_iff.mpr (List.Nodup.filter _ (by decide))
  · rw [s.tickOrder_perm.mem_iff]
    simp only [List.mem_filter, mem_allGroups, true_and, decide_eq_true_eq, ne_comm]
end

section
/-! PROOFS. The layouts of 11.3 and 11.4, and the commands that read (chapters 6 to 9). -/

namespace Sys2Proof.Machine

open Sys2Proof.Claims

/-! ### Bytes -/

theorem marksByte_eq_markSet (b0 b1 b2 : Bool) : marksByte b0 b1 b2 = markSet b0 b1 b2 := by
  revert b0 b1 b2
  decide

theorem markSet_none : markSet false false false = 0x00 := by decide

theorem tapBytes_eq_tapData (h : Int) : tapBytes h = tapData h := by
  rw [tapBytes, BitVec.toNat_ofInt]
  rfl

theorem low_toNat (n : Nat) : (low n).toNat = n % 256 := BitVec.toNat_ofNat ..

/-- The three bytes of a tap are its 24-bit two's complement number (R222). -/
theorem tapData_value {h : Int} (lower : -4194304 ≤ h) (upper : h ≤ 4194303) :
    ∃ b2 b1 b0 : Byte, tapData h = [b2, b1, b0] ∧
      (65536 * b2.toNat + 256 * b1.toNat + b0.toNat : Int) = if h < 0 then h + 16777216 else h := by
  refine ⟨_, _, _, rfl, ?_⟩
  simp only [low_toNat]
  split <;> omega

/-! ### The layouts are those of the manual -/

theorem Profile.bytes_eq (p : Profile) : p.bytes = profileData p := rfl

theorem Convergence.code_eq (c : Convergence) : c.code = convergenceByte c := by cases c <;> rfl

theorem Clock.bytes_eq (k : Clock) : k.bytes = clockData k := by
  rw [Clock.bytes, ClockState.code_eq]
  rfl

theorem Entry.bytes_eq (e : Entry) : e.bytes = entryData e := by
  have mask : e.mask.zeroExtend 8 = low e.mask.toNat := by
    apply BitVec.eq_of_toNat_eq
    rw [low_toNat]
    simp
  rw [Entry.bytes, mask]
  rfl

theorem stackByte_eq (stack : List ProfileNo) (k : Nat) :
    stackByte stack k = if h : k < stack.length then low stack[k].val else 0xFF := by
  unfold stackByte
  by_cases h : k < stack.length
  · rw [dif_pos h, List.getElem?_eq_getElem h]
    rfl
  · rw [dif_neg h, List.getElem?_eq_none (not_lt.mp h)]

theorem Group.bytes_eq (g : Group) (held : Bool) : g.bytes held = groupData g held := by
  simp only [Group.bytes, stackByte_eq]
  rfl

theorem Channel.bytes_eq (c : Channel) : c.bytes = channelData c := by
  unfold Channel.bytes channelData Channel.bypassOption Channel.bypassFlag Channel.bypassTone
    Channel.blockPending Channel.active CallOptions.byte
  simp only [marksByte_eq_markSet, Convergence.code_eq]
  cases c.custody with
  | idle =>
    simp only [Bool.false_and, markSet_none]
    rfl
  | call ref o blocked => rfl
  | test => rfl

theorem Event.bytes_eq (e : Event) : e.bytes = eventData e := by
  cases e with
  | toneBypassOn d => cases d <;> rfl
  | profileSwitched g a b cause => cases cause <;> rfl
  | _ => rfl

theorem Summary.bytes_eq (k : Summary) : k.bytes = summaryData k := by
  rw [Summary.bytes, Convergence.code_eq]
  cases h : k.reason <;> simp only [summaryData, h] <;> rfl

theorem Capture.bytes_eq (c : Capture) : c.bytes = captureData c := by
  rw [Capture.bytes, List.flatMap_def, funext tapBytes_eq_tapData]
  rfl

/-- The header comes first in every record (R221). -/
theorem Record.bytes_header (r : Record) : r.bytes = headerData r.payload.kindCode r ++ r.payload.bytes := by
  have dest : destCode r.dest = match r.dest with | .cLink => 0x01 | .mLink => 0x02 := by
    cases r.dest <;> rfl
  rw [Record.bytes, marksByte_eq_markSet, dest]
  rfl

theorem Record.bytes_eq (r : Record) : r.bytes = recordData r := by
  rw [Record.bytes_header, recordData]
  cases r.payload with
  | summary k => exact congrArg _ k.bytes_eq
  | event e => exact congrArg _ e.bytes_eq
  | capture c => exact congrArg _ c.bytes_eq

/-! ### Their lengths -/

theorem channelData_length (c : Channel) : (channelData c).length = 29 := by
  unfold channelData
  cases c.custody <;> rfl

theorem eventData_length (e : Event) : (eventData e).length = 5 := by
  rw [← Event.bytes_eq]
  cases e <;> rfl

theorem captureTaps_length (taps : List Int) : ((taps.map tapData).flatten).length = 3 * taps.length := by
  induction taps with
  | nil => rfl
  | cons h taps ih =>
    rw [List.map_cons, List.flatten_cons, List.length_append, ih, List.length_cons, tapData]
    simp only [List.length_cons, List.length_nil]
    omega

theorem recordData_length (r : Record) :
    match r.payload with
    | .summary _ => (recordData r).length = 34
    | .event _ => (recordData r).length = 17
    | .capture c => c.taps.length = 64 → (recordData r).length = 211 := by
  unfold recordData
  cases r.payload with
  | summary k => rfl
  | event e =>
    show (headerData 0x03 r ++ eventData e).length = 17
    rw [List.length_append, eventData_length]
    rfl
  | capture c =>
    intro full
    show (headerData 0x02 r ++ captureData c).length = 211
    rw [List.length_append, captureData, List.length_append, captureTaps_length, full]
    rfl

/-! ### READ SLOT's owner check -/

theorem withOwned_read_send {op : Opcode} {l : Link} {tag : Byte} {s : State} {i : SlotNo} :
    (withOwned l i s fun r => s.answerData r.bytes).send l op.code tag =
      match s.ring.slots.get i with
      | .owned owner r =>
        if owner = l then respond l op tag .ok (recordData r) s else respond l op tag .notOwner [] s
      | .device => respond l op tag .notOwner [] s := by
  unfold withOwned
  cases s.ring.slots.get i with
  | device => rfl
  | owned owner r =>
    by_cases own : owner = l
    · simp only [if_pos own, Record.bytes_eq]
      rfl
    · simp only [if_neg own]
      rfl

end Sys2Proof.Machine

open Sys2Proof Sys2Proof.Machine Sys2Proof.Claims

/-- Settles O42: each read is its number check and one layout. -/
theorem readsAnswerAndChangeNothing : Obligations.ReadsAnswerAndChangeNothing := by
  refine ⟨⟨channelData_length, fun p => rfl, fun g held => rfl, fun k => rfl, fun e => rfl, recordData_length,
    fun h => tapData_value⟩, fun l tag b s hs => ⟨?_, ?_, ?_, ?_, ?_, ?_⟩⟩
  · refine congrArg _ ((takeCommand_free hs (by cases l <;> rfl) rfl).trans (withChannel_send fun hb => ?_))
    rw [← Channel.bytes_eq]
    rfl
  · refine congrArg _ ((takeCommand_free hs (by cases l <;> rfl) rfl).trans (withNumber_send fun hb => ?_))
    rw [← Profile.bytes_eq]
    rfl
  · refine congrArg _ ((takeCommand_free hs (by cases l <;> rfl) rfl).trans (withNumber_send fun hb => ?_))
    rw [← Group.bytes_eq]
    rfl
  · refine congrArg _ ((takeCommand_free hs (by cases l <;> rfl) rfl).trans ?_)
    rw [← Clock.bytes_eq]
    rfl
  · refine congrArg _ ((takeCommand_free hs (by cases l <;> rfl) rfl).trans (withNumber_send fun hb => ?_))
    rw [← Entry.bytes_eq]
    rfl
  · exact congrArg _ ((takeCommand_free hs (by cases l <;> rfl) rfl).trans
      (withNumber_send fun hb => withOwned_read_send))
end

section
/-! PROOFS. WRITE PROFILE (R142, R143): the 34 bytes of a parameter set, written and read back. -/

namespace Sys2Proof.Machine

open Sys2Proof.Claims

/-! ### Numbers in bytes, there and back -/

theorem u16_high_low {n : Nat} (h : n < 65536) : u16 (high n) (low n) = n := by
  rw [u16, low_toNat, high, BitVec.toNat_ofNat]
  omega

theorem high_u16 (hi lo : Byte) : high (u16 hi lo) = hi := by
  apply BitVec.eq_of_toNat_eq
  rw [high, BitVec.toNat_ofNat, u16]
  omega

theorem low_u16 (hi lo : Byte) : low (u16 hi lo) = lo := by
  apply BitVec.eq_of_toNat_eq
  rw [low_toNat, u16]
  omega

theorem low_toNat_of_lt {n : Nat} (h : n < 256) : (low n).toNat = n := by
  rw [low_toNat, Nat.mod_eq_of_lt h]

theorem low_of_toNat (b : Byte) : low b.toNat = b := BitVec.ofNat_toNat ..

theorem s8_signed {i : Int} (lower : -12 ≤ i) (upper : i ≤ 12) : s8 (signed i) = i := by
  rw [s8, signed, BitVec.toInt_ofInt]
  exact Int.bmod_eq_of_le (by omega) (by omega)

theorem signed_s8 (b : Byte) : signed (s8 b) = b := BitVec.ofInt_toInt

theorem parseOnOff_mark (b : Bool) : parseOnOff (mark b) = some b := by cases b <;> rfl

theorem mark_of_parseOnOff {b : Byte} {v : Bool} (h : parseOnOff b = some v) : mark v = b := by
  apply BitVec.eq_of_toNat_eq
  unfold parseOnOff at h
  split at h
  · rename_i zero
    obtain rfl := Option.some.inj h
    exact zero.symm
  · rename_i one
    obtain rfl := Option.some.inj h
    exact one.symm
  · exact absurd h (by simp)

/-! ### The ranges of R142 -/

theorem LevelFields.valid_iff (f : LevelFields) : f.valid = true ↔ LevelInRange f := by
  simp [LevelFields.valid, LevelInRange, and_assoc]

theorem ParamSet.valid_iff (q : ParamSet) : q.valid = true ↔ InRange q := by
  simp [ParamSet.valid, InRange, LevelFields.valid_iff, and_assoc, or_assoc]

/-! ### The 34 bytes -/

/-- One path's ten bytes, read as WRITE PROFILE reads them. -/
theorem parseLevel_levelData {f : LevelFields} (h : LevelInRange f) :
    parseLevel (mark f.alc) (signed f.pad) (signed f.gMin) (signed f.gMax) (high f.aLo) (low f.aLo)
      (high f.aHi) (low f.aHi) (high f.aSp) (low f.aSp) = some f := by
  obtain ⟨gMin, pad, padMax, gMax, aSp, aLo, aHi⟩ := h
  rw [parseLevel, parseOnOff_mark, s8_signed (by omega) (by omega), s8_signed (by omega) (by omega),
    s8_signed (by omega) (by omega), u16_high_low (by omega), u16_high_low (by omega),
    u16_high_low (by omega)]
  rfl

theorem levelData_of_parseLevel {a p n x l1 l0 h1 h0 s1 s0 : Byte} {f : LevelFields}
    (h : parseLevel a p n x l1 l0 h1 h0 s1 s0 = some f) :
    levelData f = [a, p, n, x, l1, l0, h1, h0, s1, s0] := by
  obtain ⟨on, ha, rfl⟩ := Option.map_eq_some_iff.mp h
  simp only [levelData, mark_of_parseOnOff ha, signed_s8, high_u16, low_u16]

/-- A set within the ranges is read back from its bytes. -/
theorem parseProfileFields_fieldData {q : ParamSet} (h : InRange q) :
    parseProfileFields (fieldData q) = some q := by
  have valid := q.valid_iff.mpr h
  obtain ⟨delay, window, -, mFast, -, nsRatio, hangover, nsFloor, -, farFloor, nlpDepth, rPath, tPath⟩ := h
  simp only [fieldData, levelData, List.cons_append, List.nil_append, parseProfileFields, parseOnOff_mark,
    parseLevel_levelData rPath, parseLevel_levelData tPath, Option.bind_eq_bind, Option.bind_some]
  rw [u16_high_low (by omega), u16_high_low (by omega), u16_high_low (by omega), u16_high_low (by omega),
    u16_high_low (by omega), low_toNat_of_lt (by omega), low_toNat_of_lt (by omega), low_toNat_of_lt (by omega)]
  exact if_pos valid

/-- Bytes that are read as a set are the bytes of that set, which lies within the ranges. -/
theorem fieldData_of_parseProfileFields {bytes : List Byte} {q : ParamSet}
    (h : parseProfileFields bytes = some q) : InRange q ∧ fieldData q = bytes := by
  unfold parseProfileFields at h
  split at h
  · simp only [Option.bind_eq_bind, Option.bind_eq_some_iff] at h
    obtain ⟨on, hon, r, hr, t, ht, made⟩ := h
    split at made
    · rename_i valid
      obtain rfl := Option.some.inj made
      refine ⟨(ParamSet.valid_iff _).mp valid, ?_⟩
      simp only [fieldData, mark_of_parseOnOff hon, levelData_of_parseLevel hr, levelData_of_parseLevel ht,
        high_u16, low_u16, low_of_toNat]
      rfl
    · exact absurd made (by simp)
  · exact absurd h (by simp)

theorem parseProfileFields_eq_none {bytes : List Byte} (h : ∀ q : ParamSet, InRange q → fieldData q ≠ bytes) :
    parseProfileFields bytes = none :=
  Option.eq_none_iff_forall_ne_some.mpr fun q e =>
    h q (fieldData_of_parseProfileFields e).1 (fieldData_of_parseProfileFields e).2

end Sys2Proof.Machine

open Sys2Proof Sys2Proof.Machine Sys2Proof.Claims

/-- Settles O48: the number check, then the bytes by `parseProfileFields_fieldData` and `parseProfileFields_eq_none`. -/
theorem writeProfileReplacesEveryField : Obligations.WriteProfileReplacesEveryField := by
  refine ⟨fun q => ⟨q.valid_iff, rfl⟩, fun tag b s hs =>
    ⟨fun n q hn nonzero range => ?_, fun bytes full bad => ?_⟩⟩
  · refine congrArg _ ((takeCommand_free hs rfl rfl).trans ((withWritable_send fun hb _ => rfl).trans ?_))
    obtain ⟨v, hv⟩ := n
    obtain rfl : b.toNat = v := hn
    have nonzeroByte : b ≠ 0#8 := fun e => nonzero (Fin.ext (by simp [e]))
    rw [dif_pos hv, if_neg nonzeroByte, parseProfileFields_fieldData range]
    by_cases held : (s.profiles.get ⟨b.toNat, hv⟩).held = true
    · have held' : s.heldOf ⟨b.toNat, hv⟩ = true := held
      simp only [if_pos held, if_pos held']
      rfl
    · have held' : ¬s.heldOf ⟨b.toNat, hv⟩ = true := held
      simp only [if_neg held, if_neg held']
      rfl
  · refine congrArg _ ((takeCommand_free hs rfl (by rw [List.length_cons, full]; rfl)).trans
      ((withWritable_send fun hb _ => rfl).trans ?_))
    by_cases hb : b.toNat < 16
    · by_cases zero : b = 0#8
      · rw [dif_pos hb, if_pos zero]
      · have spells : ∀ q : ParamSet, InRange q → fieldData q ≠ bytes := by
          obtain none | high | spells := bad
          · exact absurd (BitVec.eq_of_toNat_eq none) zero
          · omega
          · exact spells
        rw [dif_pos hb, if_neg zero, parseProfileFields_eq_none spells]
        rfl
    · rw [dif_neg hb]
end
